-- ==== Sys2Proof/Word.lean ====
section
/-! DEFINITION. The word types of the part: bytes, sets of uplinks, generations, and saturating counters. -/
namespace Sys2Proof

/-- One byte of a frame, a message or a register. -/
abbrev Byte := BitVec 8

/-- A set of uplinks, uplink `n` in bit `n` (R167). -/
abbrev UplinkSet := BitVec 32

/-- The generation of a group (R29). -/
abbrev Generation := BitVec 32

/-- The uplinks in ascending order. -/
def allUplinks : List (Fin 32) := List.finRange 32

end Sys2Proof
end

