-- ==== Sys2Proof/Config.lean ====
section
/-! DEFINITION. The figures the part fixes: capacities, limits, identity and defaults (00_scope.md, Capacities; R145). -/
namespace Sys2Proof.Config

/-- Path groups, 0 to 4095. -/
def groups : Nat := 4096
/-- Buckets of a map. -/
def buckets : Nat := 64
/-- Members of a group, at most (R140). -/
def maxMembers : Nat := 8
/-- Condition terms of a member, at most (R140). -/
def maxTerms : Nat := 2
/-- Directory slots of a port (R113). -/
def slots : Nat := 1024
/-- SENT retract entries of a port, at most (R121). -/
def maxSent : Nat := 64
/-- Unanswered Resolves of a port, at most (R94). -/
def maxUnanswered : Nat := 32
/-- Entries of an answer order list, at most (R94). -/
def maxAnswers : Nat := 64
/-- Waiting sweep jobs, at most (R68). -/
def maxSweeps : Nat := 8
/-- Links of the link pool (R41). -/
def poolLinks : Nat := 98304
/-- Consecutive bad frames that make the scan STALE (R6). -/
def staleAt : Nat := 8
/-- Bits of a scan frame (R4, R173). -/
def scanBits : Nat := 68
/-- The part code of Identify (R145). -/
def partCode : BitVec 16 := 0x3240#16
/-- The revision code of Identify (R145). -/
def revision : Byte := 0x01#8
/-- The lead byte of a read frame (R170). -/
def readCode : Byte := 0xA5#8
/-- The byte shifted out where no reply byte is due (R170). -/
def fill : Byte := 0x00#8

end Sys2Proof.Config
end

