-- ==== Sys2Proof/Syntax.lean ====
section
/-! DEFINITION. The commands of the part: one constructor of `Instr` for each row of spec/opcode_table.json, with the operands
the rules give its step. -/
namespace Sys2Proof

/-- The two lookup ports. -/
inductive PortId where
  | lp0
  | lp1
deriving DecidableEq, Repr

/-- The role of a member (R26). -/
inductive Role where
  | primary
  | standby
deriving DecidableEq, Repr

/-- What a condition term wants of its watched uplink (R52). -/
inductive Want where
  | inSet
  | outSet
deriving DecidableEq, Repr

/-- The mode of a group (R27). -/
inductive Mode where
  | revert
  | hold
deriving DecidableEq, Repr

/-- A condition term: a watched uplink and a want (R26, R52). -/
structure Term where
  watched : Fin 32
  want    : Want
deriving DecidableEq, Repr

/-- A member record (R26). -/
structure Member where
  uplink : Fin 32
  role   : Role
  weight : Fin 16
  terms  : List Term
deriving DecidableEq, Repr

/-- The seven configuration fields of an uplink, in the units of their frame (R20, R171). -/
structure UplinkConfig where
  lineEnable     : Bool
  degradedIsDark : Bool
  darkQualify    : Byte
  restoreTime    : BitVec 16
  flapLimit      : BitVec 4
  flapWindow     : Byte
  holdTime       : BitVec 16
deriving DecidableEq, Repr

/-- The two moments of a group request (R142): its frame is judged, and its waiting access is granted by the arbiter. `frame`
carries every byte the host clocked after the kind byte. -/
inductive AccessStage where
  | frame (rest : List Byte)
  | granted
deriving DecidableEq, Repr

/-- The commands. A request's `rest` is every byte the host clocked after the kind byte: the payload length (2 bytes) and the
payload (R170). -/
inductive Instr where
  /-- FILTERED_LINE_LEVEL_CHANGE: the filtered level of `uplink`'s dark line becomes `level` (true: asserted) (R2). -/
  | filteredLineLevelChange (uplink : Fin 32) (level : Bool)
  /-- SCAN_FRAME_START (R4). -/
  | scanFrameStart
  /-- SCAN_FRAME_JUDGED: the 68 bits in the order sampled, the first in bit 67 (R4, R173). -/
  | scanFrameJudged (bits : BitVec 68)
  /-- QUALIFY_TIMER_EXPIRY (R11). -/
  | qualifyTimerExpiry (uplink : Fin 32)
  /-- RESTORE_TIMER_EXPIRY (R13). -/
  | restoreTimerExpiry (uplink : Fin 32)
  /-- HOLD_TIMER_EXPIRY (R14). -/
  | holdTimerExpiry (uplink : Fin 32)
  /-- WINDOW_TIMER_EXPIRY (R19). -/
  | windowTimerExpiry (uplink : Fin 32)
  /-- CONFIGURE_UPLINK, kind 10h (R20, R21). -/
  | configureUplink (rest : List Byte)
  /-- SET_ADMIN_CLEAR, kind 12h with action 00h (R15). -/
  | setAdminClear (rest : List Byte)
  /-- SET_ADMIN_SET, kind 12h with action 01h (R16). -/
  | setAdminSet (rest : List Byte)
  /-- CONFIGURE_SCAN_ENABLE, kind 13h with enable 01h (R3). -/
  | configureScanEnable (rest : List Byte)
  /-- CONFIGURE_SCAN_DISABLE, kind 13h with enable 00h (R3). -/
  | configureScanDisable (rest : List Byte)
  /-- READ_UPLINK, kind 11h (R24). -/
  | readUplink (rest : List Byte)
  /-- INSTALL_GROUP, kind 20h (R30, R31). -/
  | installGroup (stage : AccessStage)
  /-- MODIFY_GROUP, kind 21h (R32 to R34). -/
  | modifyGroup (stage : AccessStage)
  /-- RETIRE_GROUP, kind 22h (R32, R35). -/
  | retireGroup (stage : AccessStage)
  /-- READ_GROUP, kind 23h (R149). -/
  | readGroup (stage : AccessStage)
  /-- RANGE_SURVEY, kind 25h (R150). -/
  | rangeSurvey (rest : List Byte)
  /-- RANGE_SURVEY_ACCESS: one granted access of the survey in progress (R150). -/
  | rangeSurveyAccess
  /-- REBALANCE_RANGE, kind 24h (R70). -/
  | rebalanceRange (rest : List Byte)
  /-- UPLINK_JOB_VISIT: a granted visit of an uplink job (R73). -/
  | uplinkJobVisit
  /-- CLOSING_ACCESS: a granted access with the cursor at the chain's end (R74). -/
  | closingAccess
  /-- SWEEP_VISIT: a granted visit of a sweep job (R80). -/
  | sweepVisit
  /-- BARRIER, kind 30h (R152). -/
  | barrier (rest : List Byte)
  /-- BARRIER_TIMER_EXPIRY (R153). -/
  | barrierTimerExpiry
  /-- IDENTIFY, kind 01h (R145). -/
  | identify (rest : List Byte)
  /-- READ_STATUS, kind 02h (R146). -/
  | readStatus (rest : List Byte)
  /-- CONFIGURE_PORTS, kind 14h (R106). -/
  | configurePorts (rest : List Byte)
  /-- READ_EVENTS, kind 40h (R160). -/
  | readEvents (rest : List Byte)
  /-- SET_EVENT_ENABLES_SET, kind 41h with action 01h (R158). -/
  | setEventEnablesSet (rest : List Byte)
  /-- SET_EVENT_ENABLES_CLEAR, kind 41h with action 00h (R158). -/
  | setEventEnablesClear (rest : List Byte)
  /-- READ_COUNTERS, kind 42h with option 00h (R163). -/
  | readCounters (rest : List Byte)
  /-- READ_COUNTERS_CLEAR, kind 42h with option 01h (R163). -/
  | readCountersClear (rest : List Byte)
  /-- FULL_RESET_REQUEST, kind 5Ah (R154). -/
  | fullResetRequest (rest : List Byte)
  /-- UNKNOWN_REQUEST_KIND: a request frame whose lead byte is no request kind (R138, R170). -/
  | unknownRequestKind (kind : Byte) (rest : List Byte)
  /-- REQUEST_DROPPED: a whole request frame judged while SERVING or REPLY_READY (R134). -/
  | requestDropped (frame : List Byte)
  /-- READ_FRAME: a read frame of `clocked` bytes after the lead byte (R135). -/
  | readFrame (clocked : Nat)
  /-- MRST_N_ASSERT (R143). -/
  | mrstNAssert
  /-- MRST_N_RELEASE (R143). -/
  | mrstNRelease
  /-- PORST_N_ASSERT (R46). -/
  | porstNAssert
  /-- PORST_N_RELEASE (R46). -/
  | porstNRelease
  /-- INIT_SWEEP_END (R48). -/
  | initSweepEnd
  /-- LANE_LOCK_GAINED (R90). -/
  | laneLockGained (port : PortId)
  /-- LANE_LOCK_LOST (R90). -/
  | laneLockLost (port : PortId)
  /-- RESOLVE, lane kind 01h, with the 16-bit group index as received (R94). -/
  | resolve (port : PortId) (index : BitVec 16)
  /-- RESOLVE_ACCESS: the granted access of the port's oldest unserved Resolve (R96). -/
  | resolveAccess (port : PortId)
  /-- VECTOR_ACK, lane kind 03h (R99). -/
  | vectorAck (port : PortId) (sequence : Byte)
  /-- RETRACT_DONE, lane kind 02h, with the 16-bit group as received (R124). -/
  | retractDone (port : PortId) (group : BitVec 16)
  /-- UNKNOWN_KIND: a lane message of no kind the part takes, with its bytes (R169). -/
  | unknownKind (port : PortId) (bytes : List Byte)
  /-- ACK_TIMER_EXPIRY (R105). -/
  | ackTimerExpiry (port : PortId)
  /-- ANSWER_LEAVES: the Answer at the head of the transmit order has been sent whole (R95). -/
  | answerLeaves (port : PortId)
  /-- MESSAGE_LEAVES: the Retract or Down Vector at the head of the transmit order has been sent whole (R93). -/
  | messageLeaves (port : PortId)
  /-- WRONG_LENGTH_MESSAGE: a lane message of a known kind whose length is not that kind's, with its bytes (R107, R169). -/
  | wrongLengthMessage (port : PortId) (bytes : List Byte)
deriving DecidableEq, Repr

end Sys2Proof
end

