-- ==== Sys2Proof/Decode.lean ====
section
/-! DEFINITION. Bytes to fields and fields to bytes: the management request payloads (R138, R170, R171), the lookup messages the
part receives (R169), and which command a frame or a message is. Total on any bytes; a malformed payload decodes to `none`. -/
namespace Sys2Proof

/-! ### Byte order (R167): most significant byte first -/

def be16 (hi lo : Byte) : BitVec 16 := hi ++ lo

def be32 (b3 b2 b1 b0 : Byte) : BitVec 32 := b3 ++ b2 ++ b1 ++ b0

def bytes16 (w : BitVec 16) : List Byte := [w.extractLsb' 8 8, w.extractLsb' 0 8]

def bytes32 (w : BitVec 32) : List Byte :=
  [w.extractLsb' 24 8, w.extractLsb' 16 8, w.extractLsb' 8 8, w.extractLsb' 0 8]

def byteOfNat (n : Nat) : Byte := BitVec.ofNat 8 n

def byteOfBool (b : Bool) : Byte := if b then 0x01#8 else 0x00#8

/-! ### Packed fields (R171) -/

/-- An uplink number is bits 0-4 of its byte; bits 5-7 are ignored. -/
def uplinkOfByte (b : Byte) : Fin 32 := ⟨b.toNat % 32, Nat.mod_lt _ (by decide)⟩

/-- A term byte: bits 0-4 the watched uplink, bit 5 the want, bits 6-7 ignored. -/
def decodeTerm (b : Byte) : Term :=
  { watched := uplinkOfByte b, want := if b.getLsbD 5 then .outSet else .inSet }

def wantCode : Want → Nat
  | .inSet => 0
  | .outSet => 1

def roleCode : Role → Nat
  | .primary => 0
  | .standby => 1

def modeCode : Mode → Nat
  | .revert => 0
  | .hold => 1

/-- The mode byte; another value makes the frame malformed. -/
def decodeMode (b : Byte) : Option Mode :=
  if b = 0x00#8 then some .revert else if b = 0x01#8 then some .hold else none

/-- A two-valued code byte (action, enable, clear option): true for 01h, false for 00h; another value is malformed. -/
def decodeChoice (b : Byte) : Option Bool :=
  if b = 0x01#8 then some true else if b = 0x00#8 then some false else none

/-- Reads `n` term bytes. -/
def takeTerms : Nat → List Byte → Option (List Term × List Byte)
  | 0, bs => some ([], bs)
  | _ + 1, [] => none
  | n + 1, b :: bs => (takeTerms n bs).map fun r => (decodeTerm b :: r.1, r.2)

/-- Reads `n` members: an uplink byte, an attributes byte (bits 0-3 weight, bit 4 role, bits 5-6 number of terms, bit 7
ignored), and the terms. -/
def takeMembers : Nat → List Byte → Option (List Member × List Byte)
  | 0, bs => some ([], bs)
  | n + 1, u :: a :: bs =>
    match takeTerms (a.toNat / 32 % 4) bs with
    | none => none
    | some (ts, bs') =>
      (takeMembers n bs').map fun r =>
        ({ uplink := uplinkOfByte u
           role := if a.getLsbD 4 then .standby else .primary
           weight := ⟨a.toNat % 16, Nat.mod_lt _ (by decide)⟩
           terms := ts } :: r.1, r.2)
  | _ + 1, _ => none

/-- A member list: a count byte and the members; the bytes end exactly at the end of the last member (R138, R171). -/
def decodeMembers : List Byte → Option (List Member)
  | [] => none
  | n :: bs =>
    match takeMembers n.toNat bs with
    | some (ms, []) => some ms
    | _ => none

/-! ### Request payloads (R171) -/

/-- The payload of a request frame, from the bytes after its kind: none when the header is not whole or the length it gives is
not the number of payload bytes (R138). -/
def payloadOf : List Byte → Option (List Byte)
  | h :: l :: p => if (be16 h l).toNat = p.length then some p else none
  | _ => none

/-- Identify, Read Status, Read Events, Full Reset: no payload. -/
def decodeEmpty : List Byte → Option Unit
  | [] => some ()
  | _ => none

def decodeConfigureUplink : List Byte → Option (Fin 32 × UplinkConfig)
  | [u, o, q, r1, r0, w, h1, h0] =>
    if o.getLsbD 2 || o.getLsbD 3 then none
    else some (uplinkOfByte u,
      { lineEnable := o.getLsbD 0, degradedIsDark := o.getLsbD 1, darkQualify := q, restoreTime := be16 r1 r0,
        flapLimit := o.extractLsb' 4 4, flapWindow := w, holdTime := be16 h1 h0 })
  | _ => none

def decodeReadUplink : List Byte → Option (Fin 32)
  | [u] => some (uplinkOfByte u)
  | _ => none

/-- Set Admin: the action (true: set) and the set of uplinks. -/
def decodeSetAdmin : List Byte → Option (Bool × UplinkSet)
  | [a, b3, b2, b1, b0] => (decodeChoice a).map fun act => (act, be32 b3 b2 b1 b0)
  | _ => none

/-- Configure Scan: the enable and the period. -/
def decodeConfigureScan : List Byte → Option (Bool × BitVec 16)
  | [e, p1, p0] => (decodeChoice e).map fun en => (en, be16 p1 p0)
  | _ => none

def decodeConfigurePorts : List Byte → Option Byte
  | [t] => some t
  | _ => none

/-- The fields of Install Group. -/
structure InstallFields where
  group   : Nat
  mode    : Mode
  floor   : Byte
  members : List Member
deriving DecidableEq, Repr

/-- The fields of Modify Group. -/
structure ModifyFields where
  group    : Nat
  expected : Generation
  mode     : Mode
  floor    : Byte
  members  : List Member
deriving DecidableEq, Repr

def decodeInstall : List Byte → Option InstallFields
  | g1 :: g0 :: m :: f :: ms =>
    match decodeMode m, decodeMembers ms with
    | some mode, some members => some { group := (be16 g1 g0).toNat, mode, floor := f, members }
    | _, _ => none
  | _ => none

def decodeModify : List Byte → Option ModifyFields
  | g1 :: g0 :: e3 :: e2 :: e1 :: e0 :: m :: f :: ms =>
    match decodeMode m, decodeMembers ms with
    | some mode, some members =>
      some { group := (be16 g1 g0).toNat, expected := be32 e3 e2 e1 e0, mode, floor := f, members }
    | _, _ => none
  | _ => none

def decodeRetire : List Byte → Option (Nat × Generation)
  | [g1, g0, e3, e2, e1, e0] => some ((be16 g1 g0).toNat, be32 e3 e2 e1 e0)
  | _ => none

def decodeReadGroup : List Byte → Option Nat
  | [g1, g0] => some (be16 g1 g0).toNat
  | _ => none

/-- Rebalance Range and Range Survey: first and count. -/
def decodeRange : List Byte → Option (Nat × Nat)
  | [f1, f0, c1, c0] => some ((be16 f1 f0).toNat, (be16 c1 c0).toNat)
  | _ => none

/-- The fields of Barrier. -/
structure BarrierFields where
  uplinks  : UplinkSet
  sweeps   : Bool
  retracts : Bool
  timeout  : BitVec 16
deriving DecidableEq, Repr

def decodeBarrier : List Byte → Option BarrierFields
  | [s3, s2, s1, s0, o, t1, t0] =>
    if o.extractLsb' 2 6 = 0#6 then
      some { uplinks := be32 s3 s2 s1 s0, sweeps := o.getLsbD 0, retracts := o.getLsbD 1, timeout := be16 t1 t0 }
    else none
  | _ => none

/-- Set Event Enables: the action (true: set) and the flags. -/
def decodeSetEnables : List Byte → Option (Bool × Byte)
  | [a, f] => (decodeChoice a).map fun act => (act, f)
  | _ => none

/-- Read Counters: the option (true: clear). -/
def decodeReadCounters : List Byte → Option Bool
  | [o] => decodeChoice o
  | _ => none

/-- The payload is malformed, or decodes to this row's own choice (rows that share a kind byte). -/
def rowOf {α : Type} (dec : List Byte → Option α) (own : α → Bool) (rest : List Byte) : Bool :=
  match (payloadOf rest).bind dec with
  | none => true
  | some a => own a

/-! ### Encoders: fields to the bytes of a frame -/

/-- The bytes after the kind of a request frame with this payload. -/
def frameRest (payload : List Byte) : List Byte := bytes16 (BitVec.ofNat 16 payload.length) ++ payload

/-- A term byte; bits 6-7, which no table defines, are 0 (DESIGN CHOICE where the part sends one, log 32). -/
def encodeTerm (t : Term) : Byte := byteOfNat (t.watched.val + 32 * wantCode t.want)

/-- A member: bits 5-7 of its uplink byte and bit 7 of its attributes byte are 0 (DESIGN CHOICE where the part sends one, log 32). -/
def encodeMember (m : Member) : List Byte :=
  byteOfNat m.uplink.val :: byteOfNat (m.weight.val + 16 * roleCode m.role + 32 * m.terms.length) :: m.terms.map encodeTerm

/-- A member list: the count byte and the members in position order (R171). -/
def encodeMembers (ms : List Member) : List Byte := byteOfNat ms.length :: ms.flatMap encodeMember

/-- The option byte of Configure Uplink: bit 0 line_enable, bit 1 degraded_is_dark, bits 4-7 flap_limit (R171). -/
def encodeConfigOptions (c : UplinkConfig) : Byte :=
  byteOfNat ((if c.lineEnable then 1 else 0) + (if c.degradedIsDark then 2 else 0) + 16 * c.flapLimit.toNat)

/-- The seven configuration bytes (R171). -/
def encodeConfig (c : UplinkConfig) : List Byte :=
  [encodeConfigOptions c, c.darkQualify] ++ bytes16 c.restoreTime ++ [c.flapWindow] ++ bytes16 c.holdTime

def encodeConfigureUplink (u : Fin 32) (c : UplinkConfig) : List Byte := frameRest (byteOfNat u.val :: encodeConfig c)

def encodeSetAdmin (set : Bool) (us : UplinkSet) : List Byte := frameRest (byteOfBool set :: bytes32 us)

def encodeConfigureScan (enable : Bool) (period : BitVec 16) : List Byte := frameRest (byteOfBool enable :: bytes16 period)

def encodeInstall (f : InstallFields) : List Byte :=
  frameRest (bytes16 (BitVec.ofNat 16 f.group) ++ [byteOfNat (modeCode f.mode), f.floor] ++ encodeMembers f.members)

def encodeModify (f : ModifyFields) : List Byte :=
  frameRest (bytes16 (BitVec.ofNat 16 f.group) ++ bytes32 f.expected ++ [byteOfNat (modeCode f.mode), f.floor] ++
    encodeMembers f.members)

def encodeRetire (g : Nat) (expected : Generation) : List Byte :=
  frameRest (bytes16 (BitVec.ofNat 16 g) ++ bytes32 expected)

def encodeReadGroup (g : Nat) : List Byte := frameRest (bytes16 (BitVec.ofNat 16 g))

def encodeRange (first count : Nat) : List Byte :=
  frameRest (bytes16 (BitVec.ofNat 16 first) ++ bytes16 (BitVec.ofNat 16 count))

def encodeBarrier (b : BarrierFields) : List Byte :=
  frameRest (bytes32 b.uplinks ++ [byteOfNat ((if b.sweeps then 1 else 0) + (if b.retracts then 2 else 0))] ++ bytes16 b.timeout)

def encodeSetEnables (set : Bool) (flags : Byte) : List Byte := frameRest [byteOfBool set, flags]

def encodeReadCounters (clear : Bool) : List Byte := frameRest [byteOfBool clear]

/-! ### Which command a frame is (R133, R134, R170) -/

/-- The request kinds of the part (R170). -/
def requestKinds : List Byte :=
  [0x01#8, 0x02#8, 0x10#8, 0x11#8, 0x12#8, 0x13#8, 0x14#8, 0x20#8, 0x21#8, 0x22#8, 0x23#8, 0x24#8, 0x25#8, 0x30#8, 0x40#8,
   0x41#8, 0x42#8, 0x5A#8]

/-- The lead byte makes the frame a request frame of an unknown kind. -/
def isUnknownRequestKind (k : Byte) : Bool := k != Config.readCode && !requestKinds.contains k

/-- A request frame, judged whole: a lead byte other than the read code. -/
def isRequestFrame : List Byte → Bool
  | [] => false
  | k :: _ => k != Config.readCode

/-- The command of a request frame of kind `k` taken in IDLE. A malformed frame of a kind with two rows is given to its first. -/
def requestInstr (k : Byte) (rest : List Byte) : Instr :=
  if k = 0x01#8 then .identify rest
  else if k = 0x02#8 then .readStatus rest
  else if k = 0x10#8 then .configureUplink rest
  else if k = 0x11#8 then .readUplink rest
  else if k = 0x12#8 then
    match (payloadOf rest).bind decodeSetAdmin with
    | some (true, _) => .setAdminSet rest
    | _ => .setAdminClear rest
  else if k = 0x13#8 then
    match (payloadOf rest).bind decodeConfigureScan with
    | some (true, _) => .configureScanEnable rest
    | _ => .configureScanDisable rest
  else if k = 0x14#8 then .configurePorts rest
  else if k = 0x20#8 then .installGroup (.frame rest)
  else if k = 0x21#8 then .modifyGroup (.frame rest)
  else if k = 0x22#8 then .retireGroup (.frame rest)
  else if k = 0x23#8 then .readGroup (.frame rest)
  else if k = 0x24#8 then .rebalanceRange rest
  else if k = 0x25#8 then .rangeSurvey rest
  else if k = 0x30#8 then .barrier rest
  else if k = 0x40#8 then .readEvents rest
  else if k = 0x41#8 then
    match (payloadOf rest).bind decodeSetEnables with
    | some (true, _) => .setEventEnablesSet rest
    | _ => .setEventEnablesClear rest
  else if k = 0x42#8 then
    match (payloadOf rest).bind decodeReadCounters with
    | some true => .readCountersClear rest
    | _ => .readCounters rest
  else if k = 0x5A#8 then .fullResetRequest rest
  else .unknownRequestKind k rest

/-- The command of the bytes clocked in a frame that no reset cut (`Machine.linkEvent` holds the frame while it is in progress), with the interface IDLE or not; none for a frame of no whole byte (R133,
log 20). `bytes` are the whole bytes: the bits of an incomplete byte at the frame's end are dropped (DESIGN CHOICE, log 29). -/
def frameInstr (idle : Bool) : List Byte → Option Instr
  | [] => none
  | k :: rest =>
    if k = Config.readCode then some (.readFrame rest.length)
    else if idle then some (requestInstr k rest)
    else some (.requestDropped (k :: rest))

/-! ### Lookup messages received (R169) -/

/-- What the receive side takes a message's bytes for. -/
inductive LaneIn where
  | resolve (index : BitVec 16)
  | retractDone (group : BitVec 16)
  | vectorAck (sequence : Byte)
  | wrongLength
  | unknown
deriving DecidableEq, Repr

/-- The first byte is the kind; each kind has one length; no byte at all is an unknown kind (R169). -/
def decodeLane : List Byte → LaneIn
  | [] => .unknown
  | k :: b =>
    if k = 0x01#8 then
      match b with
      | [h, l] => .resolve (be16 h l)
      | _ => .wrongLength
    else if k = 0x02#8 then
      match b with
      | [h, l] => .retractDone (be16 h l)
      | _ => .wrongLength
    else if k = 0x03#8 then
      match b with
      | [s] => .vectorAck s
      | _ => .wrongLength
    else .unknown

/-- The command of a message received on a port. -/
def laneInstr (p : PortId) (bytes : List Byte) : Instr :=
  match decodeLane bytes with
  | .resolve i => .resolve p i
  | .retractDone g => .retractDone p g
  | .vectorAck s => .vectorAck p s
  | .wrongLength => .wrongLengthMessage p bytes
  | .unknown => .unknownKind p bytes

/-! ### The scan frame (R173) -/

/-- The marker: the first four bits sampled, in order. -/
def scanMarker (bits : BitVec 68) : BitVec 4 := bits.extractLsb' 64 4

/-- The code of uplink `u`: the bits sampled as number 5 + 2u and 6 + 2u, high bit first. -/
def scanCodeBits (bits : BitVec 68) (u : Fin 32) : BitVec 2 := bits.extractLsb' (62 - 2 * u.val) 2

/-! ### The table's words -/

/-- spec/opcode_table.json gives no row any bits, so no word spells a command. -/
def decodeTableWord (_nbits _w : Nat) : Option Instr := none

end Sys2Proof
end

