-- ==== Sys2Proof/Machine/State.lean ====
section
/-! DEFINITION. The state of the part, block by block, and its value right after a full reset. -/
namespace Sys2Proof.Machine

/-! ### Uplink Watch (01_uplink_watch.md, R1) -/

/-- The six states of an uplink (R1). -/
inductive UplinkState where
  | adminDown
  | lit
  | suspect
  | dark
  | restoring
  | damped
deriving DecidableEq, Repr

/-- A scan code (section 1.3). -/
inductive ScanCode where
  | ok
  | localFault
  | remoteFault
  | degraded
deriving DecidableEq, Repr

/-- A timer: stopped, or running with the time it was loaded with, in µs (log 1). -/
inductive Timer where
  | stopped
  | running (loaded : Nat)
deriving DecidableEq, Repr

/-- The record of one uplink, with the two block-wide values kept per uplink: its filtered line level and last scan code. -/
structure Uplink where
  state       : UplinkState
  config      : UplinkConfig
  qualify     : Timer
  window      : Timer
  onset       : Nat
  d           : Bool
  darkEntries : BitVec 16
  dampEntries : BitVec 16
  line        : Bool
  code        : ScanCode
deriving DecidableEq, Repr

/-- The configuration after a full reset (R20). -/
def defaultConfig : UplinkConfig :=
  { lineEnable := true, degradedIsDark := false, darkQualify := 5#8, restoreTime := 2000#16, flapLimit := 5#4,
    flapWindow := 10#8, holdTime := 60#16 }

/-- An uplink record after a full reset (R1). -/
def Uplink.reset : Uplink :=
  { state := .adminDown, config := defaultConfig, qualify := .stopped, window := .stopped, onset := 0, d := false,
    darkEntries := 0#16, dampEntries := 0#16, line := false, code := .ok }

/-- The scan states (R1). -/
inductive ScanState where
  | off
  | tracking
  | stale
deriving DecidableEq, Repr

/-- An edge the part drives on SCAN_LOAD or on SCAN_CLK (R4, R173). -/
inductive ScanEdge where
  | loadRise
  | loadFall
  | clkRise
  | clkFall
deriving DecidableEq, Repr

/-- The scan receiver (R1, R3 to R6); `inFrame`: a frame is being shifted in; `driven`: the edges the part has driven on SCAN_LOAD and
SCAN_CLK for the last frame started, none while the scan is OFF (log 34). -/
structure Scan where
  state   : ScanState
  period  : BitVec 16
  bad     : Nat
  inFrame : Bool
  driven  : List ScanEdge
deriving DecidableEq, Repr

def Scan.reset : Scan := { state := .off, period := 100#16, bad := 0, inFrame := false, driven := [] }

/-! ### Path Table (02_the_path_table.md) -/

/-- A map of 64 buckets, each a member position or NONE. -/
abbrev BucketMap := List (Option Nat)

/-- The map that is NONE in every bucket. -/
def noneMap : BucketMap := List.replicate Config.buckets none

inductive GroupState where
  | free
  | active
  | retiring
deriving DecidableEq, Repr

/-- A group record (R25). -/
structure Group where
  state   : GroupState
  gen     : Generation
  mode    : Mode
  floor   : Nat
  members : List Member
  map     : BucketMap
deriving DecidableEq, Repr

/-- A FREE group at generation 0 (R25). -/
def Group.reset : Group := { state := .free, gen := 0#32, mode := .revert, floor := 1, members := [], map := noneMap }

/-- The four requesters of the arbiter (R42). -/
inductive Requester where
  | lp0
  | lp1
  | walk
  | mgmt
deriving DecidableEq, Repr

/-- A sparse table: (number, entry) pairs in rising order, the default entry never listed. -/
abbrev SparseTable (α : Type) := List (Nat × α)

/-- Group records, reference chains, link pool, arbiter and readiness. Unlisted groups read as `Group.reset`. -/
structure Table where
  groups      : SparseTable Group
  chains      : Vector (List Nat) 32
  freeLinks   : Nat
  lastGranted : Requester
  ready       : Bool
deriving DecidableEq, Repr

/-- The table as the init sweep leaves it, the device still INIT (R46). -/
def Table.reset : Table :=
  { groups := [], chains := Vector.replicate 32 [], freeLinks := Config.poolLinks, lastGranted := .mgmt, ready := false }

/-! ### Walk Engine (04_reroute_walks.md, R67) -/

/-- A waiting job. -/
inductive WaitingJob where
  | uplink (u : Fin 32)
  | sweep (first count : Nat)
deriving DecidableEq, Repr

/-- The job in progress with its cursor: a group on the chain, or none for the chain's end; for a sweep the next group. -/
inductive RunningJob where
  | uplink (u : Fin 32) (cursor : Option Nat)
  | sweep (first count next : Nat)
deriving DecidableEq, Repr

/-- The engine is WALKING exactly while `job` is some (R67). -/
structure Walk where
  queue : List WaitingJob
  job   : Option RunningJob
deriving DecidableEq, Repr

def Walk.reset : Walk := { queue := [], job := none }

/-! ### Lookup Ports and Copy Directory (05, 06) -/

inductive PortState where
  | down
  | sync
  | up
  | fault
deriving DecidableEq, Repr

inductive AnswerStatus where
  | ok
  | noLive
  | noRoute
  | badGroup
  | busy
  | notReady
deriving DecidableEq, Repr

/-- An Answer: the group index as received, the status, and for OK and NO_LIVE the generation and the translated map. -/
structure Answer where
  index  : BitVec 16
  status : AnswerStatus
  body   : Option (Generation × List Byte)
deriving DecidableEq, Repr

/-- An entry of the answer order list: its Answer once decided, and whether that Answer has joined the transmit order. -/
structure ResolveEntry where
  index       : BitVec 16
  needsAccess : Bool
  answer      : Option Answer
  joined      : Bool
deriving DecidableEq, Repr

/-- A Down Vector: a sequence number and the uplinks that are not live. -/
structure DownVector where
  sequence : Byte
  notLive  : UplinkSet
deriving DecidableEq, Repr

/-- A message waiting to leave on a lane. -/
inductive LaneMessage where
  | answer (a : Answer)
  | retract (group : Nat) (gen : Generation)
  | downVector (v : DownVector)
deriving DecidableEq, Repr

/-- A character of a lane (R168), as its receiver decodes one in a character time; `signalLost`: the lane's signal is gone. -/
inductive LaneChar where
  | idle
  | opening
  | closing
  | data (b : Byte)
  | undecodable
  | signalLost
deriving DecidableEq, Repr

/-- COPY(g, n) (R113). -/
structure Copy where
  group : Nat
  gen   : Generation
deriving DecidableEq, Repr

inductive Mark where
  | waiting
  | sent
deriving DecidableEq, Repr

/-- A retract entry (R117). -/
structure RetractEntry where
  group : Nat
  gen   : Generation
  mark  : Mark
deriving DecidableEq, Repr

/-- The five counters of a port (R89). -/
structure PortCounters where
  answersOk      : BitVec 32
  answersNoRoute : BitVec 32
  answersBusy    : BitVec 32
  retractsSent   : BitVec 32
  faults         : BitVec 32
deriving DecidableEq, Repr

def PortCounters.zero : PortCounters :=
  { answersOk := 0#32, answersNoRoute := 0#32, answersBusy := 0#32, retractsSent := 0#32, faults := 0#32 }

/-- One lookup port with its directory (unlisted slots are EMPTY) and retract list (R89, R113, R117). `locked` is the lane's lock;
`sent` is the model's own record of the characters of the last message that left (log 13). -/
structure Port where
  state       : PortState
  locked      : Bool
  answers     : List ResolveEntry
  unanswered  : Nat
  transmit    : List LaneMessage
  nextSeq     : Byte
  outstanding : Option DownVector
  pendingFlag : Bool
  ackUp       : UplinkSet
  ackTimer    : Timer
  counters    : PortCounters
  slots       : SparseTable (Option Copy)
  retracts    : List RetractEntry
  sent        : List LaneChar
deriving DecidableEq, Repr

def Port.reset : Port :=
  { state := .down, locked := false, answers := [], unanswered := 0, transmit := [], nextSeq := 0#8, outstanding := none,
    pendingFlag := false, ackUp := 0#32, ackTimer := .stopped, counters := PortCounters.zero, slots := [], retracts := [],
    sent := [] }

/-! ### Management Interface (07, R132) -/

/-- Reply statuses (R170). -/
inductive ReplyStatus where
  | ok
  | badRequest
  | range
  | exists_
  | absent
  | pending
  | stale
  | busy
  | notReady
  | timeout
deriving DecidableEq, Repr

structure Reply where
  status  : ReplyStatus
  payload : List Byte
deriving DecidableEq, Repr

/-- A group request that passed its checks and waits for its access. -/
inductive GroupRequest where
  | install (f : InstallFields)
  | modify (f : ModifyFields)
  | retire (g : Nat) (expected : Generation)
  | read (g : Nat)
deriving DecidableEq, Repr

/-- A Range Survey in progress: its next group, the groups left to read, and its running totals (R150). -/
structure Survey where
  next      : Nat
  left      : Nat
  active    : Nat
  retiring  : Nat
  free      : Nat
  firstFree : Option Nat
  digest    : BitVec 32
deriving DecidableEq, Repr

/-- A waiting Barrier's test (R152). -/
structure BarrierTest where
  uplinks  : UplinkSet
  sweeps   : Bool
  retracts : Bool
deriving DecidableEq, Repr

/-- The request in progress while SERVING. -/
inductive Request where
  | group (r : GroupRequest)
  | survey (v : Survey)
  | barrier (b : BarrierTest)
deriving DecidableEq, Repr

/-- The interface state with what it holds (the second table of R132). -/
inductive Interface where
  | idle
  | serving (r : Request)
  | replyReady (r : Reply)
deriving DecidableEq, Repr

/-- The Management Interface (R132). `sdo` is the model's own record of the bytes SDO shifted out in the last judged frame, its
lead byte's among them (log 12). -/
structure Mgmt where
  iface           : Interface
  resetOwed       : Bool
  dropped         : Bool
  barrierTimer    : Timer
  flags           : Byte
  enables         : Byte
  walkVisits      : BitVec 32
  droppedRequests : BitVec 32
  sdo             : List Byte
deriving DecidableEq, Repr

def Mgmt.reset : Mgmt :=
  { iface := .idle, resetOwed := false, dropped := false, barrierTimer := .stopped, flags := 0#8, enables := 0#8,
    walkVisits := 0#32, droppedRequests := 0#32, sdo := [] }

/-- The frame in progress on the management link (R133, log 30): CS_N is low (`selected`); a reset has cut the frame (`cut`); its lead
byte found a reply waiting (`found`, R135); the whole bytes clocked so far, none once it is cut. -/
structure Link where
  selected : Bool
  cut      : Bool
  found    : Bool
  clocked  : List Byte
deriving DecidableEq, Repr

/-- CS_N high: no frame is in progress. -/
def Link.idle : Link := { selected := false, cut := false, found := false, clocked := [] }

/-! ### The part -/

/-- The state of the part. `porst`: PORST_N is held low; `mrst`: MRST_N is held low; `pending`: the commands that wait, first in
first out (the model's own). -/
structure State where
  uplinks    : Vector Uplink 32
  scan       : Scan
  live       : UplinkSet
  table      : Table
  walk       : Walk
  lp0        : Port
  lp1        : Port
  settled    : UplinkSet
  ackTimeout : Byte
  mgmt       : Mgmt
  link       : Link
  porst      : Bool
  mrst       : Bool
  pending    : List Instr
deriving DecidableEq, Repr

/-- The part right after a full reset on PORST_N whose pin has just risen, no lane locked and no frame in progress: INIT, the init sweep running (log 7). -/
def State.reset : State :=
  { uplinks := Vector.replicate 32 Uplink.reset, scan := Scan.reset, live := 0#32, table := Table.reset, walk := Walk.reset,
    lp0 := Port.reset, lp1 := Port.reset, settled := 0#32, ackTimeout := 20#8, mgmt := Mgmt.reset, link := Link.idle,
    porst := false, mrst := false, pending := [] }

/-- What stops the part: nothing. No rule of the spec stops it, so the type has no constructor (log 17). -/
inductive Fault
deriving DecidableEq, Repr

/-- What the model refuses. -/
inductive Refusal where
  /-- Raised by `exec` for a command of the table that has no meaning yet (none is left). Safe: it forbids, it never invents. -/
  | notModelled (mnemonic : String)
deriving DecidableEq, Repr

/-- The outcome of a step. -/
abbrev Result := Host.Outcome State Fault Refusal

end Sys2Proof.Machine
end

