-- ==== Sys2Proof/Machine/Flags.lean ====
section
/-! DEFINITION. Event flags and enables, the pins RDY, ATTN, SCAN_LOAD and SCAN_CLK, and saturating counters (08_events_and_counters.md). -/
namespace Sys2Proof.Machine

/-! The bit of each flag (R171). -/

def flagReady : Byte := 0x01#8
def flagUplink : Byte := 0x02#8
def flagScan : Byte := 0x04#8
def flagPort : Byte := 0x08#8
def flagFault : Byte := 0x10#8
def flagWalkIdle : Byte := 0x20#8
def flagSweepDone : Byte := 0x40#8
def flagRetired : Byte := 0x80#8

/-- Sets event flags, enabled or not (R156). -/
def State.raise (s : State) (f : Byte) : State :=
  { s with mgmt := { s.mgmt with flags := s.mgmt.flags ||| f } }

/-- Sets event flags when a cause occurred. -/
def State.raiseIf (s : State) (c : Bool) (f : Byte) : State := if c then s.raise f else s

/-- ATTN is asserted while at least one flag is both set and enabled (R159). -/
def State.attn (s : State) : Bool := s.mgmt.flags &&& s.mgmt.enables != 0#8

/-- RDY is asserted while the interface is REPLY_READY (R132). -/
def State.rdy (s : State) : Bool :=
  match s.mgmt.iface with
  | .replyReady _ => true
  | _ => false

/-- A pin's level after some edges, low before them. -/
def levelAfter (rise fall : ScanEdge) (edges : List ScanEdge) : Bool :=
  edges.foldl (fun level e => if e = rise then true else if e = fall then false else level) false

/-- SCAN_LOAD at the end of a step: its level after the edges driven (R4, R173, log 34). -/
def State.scanLoad (s : State) : Bool := levelAfter .loadRise .loadFall s.scan.driven

/-- SCAN_CLK at the end of a step: its level after the edges driven (R4, R173, log 34). -/
def State.scanClk (s : State) : Bool := levelAfter .clkRise .clkFall s.scan.driven

/-- A counter rises by 1 and saturates at its maximum (R162). -/
def satInc {w : Nat} (c : BitVec w) : BitVec w := if c = BitVec.allOnes w then c else c + 1#w

end Sys2Proof.Machine
end

