-- ==== Sys2Proof/Machine/Placement.lean ====
section
/-! DEFINITION. The Placement Unit (03_bucket_placement.md): a map from the member list, the floor, a starting map, the settled set
and the kind of placement. It holds no state (R49). Quotas and deficits are lists by member position. -/
namespace Sys2Proof.Machine

/-- The two kinds of placement. -/
inductive Kind where
  | full
  | keep
deriving DecidableEq, Repr

/-- The kind for Resolves, uplink-job visits and Read Group (R50). -/
def kindOfMode : Mode → Kind
  | .revert => .full
  | .hold => .keep

/-! ### Eligibility and the active set -/

/-- A condition term holds under S (R52). -/
def termHolds (S : UplinkSet) (t : Term) : Bool :=
  match t.want with
  | .inSet => S.getLsbD t.watched.val
  | .outSet => !S.getLsbD t.watched.val

/-- A member is eligible under S (R51). -/
def eligible (S : UplinkSet) (m : Member) : Bool :=
  m.weight.val != 0 && S.getLsbD m.uplink.val && m.terms.all (termHolds S)

/-- The eligible primaries, P (R53). -/
def eligiblePrimaries (S : UplinkSet) (ms : List Member) : Nat :=
  ms.countP fun m => eligible S m && m.role == .primary

/-- Which positions are in the active set A: the eligible primaries, and the eligible standbys when the primaries are fewer than
the floor (R53). -/
def activeSet (S : UplinkSet) (floor : Nat) (ms : List Member) : List Bool :=
  ms.map fun m => eligible S m && (m.role == .primary || eligiblePrimaries S ms < floor)

/-! ### Quotas (R55) -/

/-- The weights of the active members, 0 for the others. -/
def activeWeights (S : UplinkSet) (floor : Nat) (ms : List Member) : List Nat :=
  List.zipWith (fun m a => if a then m.weight.val else 0) ms (activeSet S floor ms)

/-- The base quota of a weight: 64 times it, divided by W, rounded down. -/
def baseQuota (W w : Nat) : Nat := Config.buckets * w / W

/-- The remainder of a weight: 64 times it, modulo W. -/
def remainder (W w : Nat) : Nat := Config.buckets * w % W

/-- How many members stand before position `i` in the giving of extra buckets: those with a larger remainder, and those with an
equal one at a lower position. Positions outside A, of weight 0 in `ws`, do not count. -/
def extraRank (W : Nat) (ws : List Nat) (i w : Nat) : Nat :=
  (ws.zipIdx).countP fun e => e.1 != 0 && (remainder W w < remainder W e.1 || (remainder W w == remainder W e.1 && e.2 < i))

/-- The quotas by position, 0 outside A: the base quota, plus 1 for the E members first in the order of the extras. -/
def quotas (ws : List Nat) : List Nat :=
  let W := ws.sum
  let E := Config.buckets - (ws.map (baseQuota W)).sum
  ws.zipIdx.map fun e => if e.1 = 0 then 0 else baseQuota W e.1 + (if extraRank W ws e.2 e.1 < E then 1 else 0)

/-! ### Freeing -/

/-- First step: a bucket that names a member not in A is freed (R57). -/
def freeInactive (act : List Bool) (m : BucketMap) : BucketMap :=
  m.map fun b => b.filter fun p => act.getD p false

/-- Second step, full placement only: a member keeps its quota of buckets, the lowest-numbered ones (R58). `before` is what the
lower buckets name. -/
def freeExcess (qs : List Nat) : (before m : BucketMap) → BucketMap
  | _, [] => []
  | before, none :: t => none :: freeExcess qs before t
  | before, some p :: t =>
    (if before.count (some p) < qs.getD p 0 then some p else none) :: freeExcess qs (some p :: before) t

/-! ### Filling (R59) -/

/-- The deficits by position: quota less buckets held, none outside A. -/
def deficits (act : List Bool) (qs : List Nat) (m : BucketMap) : List (Option Int) :=
  act.zipIdx.map fun e => if e.1 then some ((qs.getD e.2 0 : Int) - (m.count (some e.2) : Int)) else none

/-- The position of the largest deficit, the lowest among equals. -/
def largestDeficit : List (Option Int) → Nat → Option (Nat × Int) → Option (Nat × Int)
  | [], _, best => best
  | none :: t, i, best => largestDeficit t (i + 1) best
  | some d :: t, i, none => largestDeficit t (i + 1) (some (i, d))
  | some d :: t, i, some b => largestDeficit t (i + 1) (if b.2 < d then some (i, d) else some b)

/-- Assigns the free buckets one at a time in ascending order, each to the member with the largest deficit. -/
def fillFree : List (Option Int) → BucketMap → BucketMap
  | _, [] => []
  | ds, some p :: t => some p :: fillFree ds t
  | ds, none :: t =>
    match largestDeficit ds 0 none with
    | none => none :: fillFree ds t
    | some (p, d) => some p :: fillFree (ds.set p (some (d - 1))) t

/-! ### The placement -/

/-- The free and kept buckets of a placement, before filling. -/
def freed (kind : Kind) (act : List Bool) (qs : List Nat) (start : BucketMap) : BucketMap :=
  match kind with
  | .full => freeExcess qs [] (freeInactive act start)
  | .keep => freeInactive act start

/-- One placement (R49 to R60): NONE in every bucket when A is empty (R54). -/
def place (kind : Kind) (ms : List Member) (floor : Nat) (start : BucketMap) (S : UplinkSet) : BucketMap :=
  let act := activeSet S floor ms
  if act.any id then
    let qs := quotas (activeWeights S floor ms)
    let m := freed kind act qs start
    fillFree (deficits act qs m) m
  else noneMap

/-- The effective map of a group under S (R50). -/
def Group.effectiveMap (r : Group) (S : UplinkSet) : BucketMap :=
  place (kindOfMode r.mode) r.members r.floor r.map S

/-! ### Translation (R61) -/

/-- A bucket as it leaves the part: the uplink of the member it names, or 255. -/
def translateBucket (ms : List Member) (b : Option Nat) : Byte :=
  match b.bind fun p => ms[p]? with
  | some m => BitVec.ofNat 8 m.uplink.val
  | none => 255#8

def translate (ms : List Member) (m : BucketMap) : List Byte := m.map (translateBucket ms)

/-- A map of 255 in every bucket. -/
def unusedMap : List Byte := List.replicate Config.buckets 255#8

end Sys2Proof.Machine
end

