-- ==== Sys2Proof/Machine/Sparse.lean ====
section
/-! DEFINITION. Sparse tables in one canonical form: numbers strictly rising, the default entry never listed. They hold the 4096
group records (R25) and the 1024 directory slots of a port (R113). -/
namespace Sys2Proof.Machine

/-- The entry at `k`; an unlisted number reads as the default. -/
def sparseGet {α : Type} (dflt : α) : SparseTable α → Nat → α
  | [], _ => dflt
  | (k', v) :: t, k => if k' = k then v else sparseGet dflt t k

/-- Puts an entry in its place by number. -/
def sparseInsert {α : Type} (k : Nat) (v : α) : SparseTable α → SparseTable α
  | [] => [(k, v)]
  | (k', v') :: t => if k < k' then (k, v) :: (k', v') :: t else (k', v') :: sparseInsert k v t

/-- Writes the entry at `k`; writing the default removes it. -/
def sparseSet {α : Type} [DecidableEq α] (dflt : α) (l : SparseTable α) (k : Nat) (v : α) : SparseTable α :=
  let rest := l.filter fun e => e.1 ≠ k
  if v = dflt then rest else sparseInsert k v rest

/-- Changes every listed entry. -/
def sparseMap {α : Type} [DecidableEq α] (dflt : α) (f : Nat → α → α) (l : SparseTable α) : SparseTable α :=
  l.filterMap fun e => if f e.1 e.2 = dflt then none else some (e.1, f e.1 e.2)

/-- The canonical form. -/
abbrev SparseWf {α : Type} (dflt : α) (l : SparseTable α) : Prop :=
  l.Pairwise (fun a b => a.1 < b.1) ∧ ∀ e ∈ l, e.2 ≠ dflt

end Sys2Proof.Machine
end

