-- ==== Sys2Proof/Machine/Operands.lean ====
section
/-! DEFINITION. Codes and layouts of what leaves the part: lookup messages (R169), reply frames and reply payloads (R170 to R172),
and the codes that come in on the scan frame (R173). -/
namespace Sys2Proof.Machine

/-! ### Codes (R171) -/

def uplinkStateCode : UplinkState → Byte
  | .adminDown => 0#8
  | .lit => 1#8
  | .suspect => 2#8
  | .dark => 3#8
  | .restoring => 4#8
  | .damped => 5#8

def scanCodeNumber : ScanCode → Nat
  | .ok => 0
  | .localFault => 1
  | .remoteFault => 2
  | .degraded => 3

/-- A sampled code: 00 OK, 01 LOCAL_FAULT, 10 REMOTE_FAULT, 11 DEGRADED (R173). -/
def scanCodeOfBits (b : BitVec 2) : ScanCode :=
  if b = 0#2 then .ok else if b = 1#2 then .localFault else if b = 2#2 then .remoteFault else .degraded

def scanStateCode : ScanState → Byte
  | .off => 0#8
  | .tracking => 1#8
  | .stale => 2#8

def portStateCode : PortState → Byte
  | .down => 0#8
  | .sync => 1#8
  | .up => 2#8
  | .fault => 3#8

def groupStateCode : GroupState → Byte
  | .free => 0#8
  | .active => 1#8
  | .retiring => 2#8

/-- Reply status codes (R170). -/
def replyStatusCode : ReplyStatus → Byte
  | .ok => 0x00#8
  | .badRequest => 0x01#8
  | .range => 0x02#8
  | .exists_ => 0x03#8
  | .absent => 0x04#8
  | .pending => 0x05#8
  | .stale => 0x06#8
  | .busy => 0x07#8
  | .notReady => 0x08#8
  | .timeout => 0x09#8

/-- Answer status codes (R169). -/
def answerStatusCode : AnswerStatus → Byte
  | .ok => 0x00#8
  | .noLive => 0x01#8
  | .noRoute => 0x02#8
  | .badGroup => 0x03#8
  | .busy => 0x04#8
  | .notReady => 0x05#8

/-! ### Lookup messages the part sends (R169) -/

/-- The bytes of a message: the Answer in its long form when it carries a generation and a map, else in its short form. -/
def messageBytes : LaneMessage → List Byte
  | .answer a =>
    [0x81#8] ++ bytes16 a.index ++ [answerStatusCode a.status] ++
      match a.body with
      | none => []
      | some (gen, map) => bytes32 gen ++ map
  | .retract g gen => [0x82#8] ++ bytes16 (BitVec.ofNat 16 g) ++ bytes32 gen
  | .downVector v => [0x83#8, v.sequence] ++ bytes32 v.notLive

/-- The characters of a message on its lane: its bytes whole, between an opening and a closing delimiter (R168). -/
def messageChars (m : LaneMessage) : List LaneChar := .opening :: (messageBytes m).map .data ++ [.closing]

/-- What the transmit side of a lane sends while messages leave: each message whole between its delimiters, and before each the idle
characters of the time in which none was being sent (R168); how many is a matter of time (log 33). Each is a message that left: one half
sent when a reset empties the transmit order has no characters here (DESIGN CHOICE, log 36). -/
def transmitChars : List (Nat × LaneMessage) → List LaneChar
  | [] => []
  | (idles, m) :: rest => List.replicate idles .idle ++ messageChars m ++ transmitChars rest

/-- The lane carries idle characters: its port has no message to send (R168). It does so at once when a reset empties the transmit order
(DESIGN CHOICE, log 36). -/
def Port.sendsIdle (p : Port) : Bool := p.transmit.isEmpty

/-! ### Reply frames (R170) -/

/-- The bytes of a reply: status, flags (bit 0 the dropped bit), payload length, payload. -/
def replyBytes (r : Reply) (dropped : Bool) : List Byte :=
  [replyStatusCode r.status, byteOfBool dropped] ++ bytes16 (BitVec.ofNat 16 r.payload.length) ++ r.payload

/-- The first `n` bytes shifted out: the given bytes, then fill bytes (R135, R170). -/
def shiftOut (n : Nat) (bytes : List Byte) : List Byte :=
  bytes.take n ++ List.replicate (n - bytes.length) Config.fill

/-! ### Reply payloads (R171) -/

def identifyPayload : List Byte :=
  bytes16 Config.partCode ++ [Config.revision, byteOfNat 32] ++ bytes16 (BitVec.ofNat 16 Config.groups) ++
    [byteOfNat Config.maxMembers, byteOfNat Config.buckets] ++ bytes16 (BitVec.ofNat 16 Config.slots) ++ [byteOfNat 2]

def statusPayload (s : State) : List Byte :=
  [byteOfBool s.table.ready, portStateCode s.lp0.state, portStateCode s.lp1.state, scanStateCode s.scan.state,
    byteOfBool s.walk.job.isSome, byteOfNat s.walk.queue.length] ++ bytes32 s.live ++ bytes32 s.settled ++ [s.mgmt.flags]

/-- Read Uplink's indications byte: bit 0 d, bit 1 the filtered line level, bits 2-3 the last scan code. Bits 4-7, which no table
defines, are 0 (DESIGN CHOICE, log 32). -/
def indications (v : Uplink) : Byte :=
  byteOfNat ((if v.d then 1 else 0) + (if v.line then 2 else 0) + 4 * scanCodeNumber v.code)

/-- Read Uplink's payload; bits 5-7 of the uplink byte are 0 (DESIGN CHOICE, log 32). -/
def uplinkPayload (u : Fin 32) (v : Uplink) : List Byte :=
  [byteOfNat u.val, uplinkStateCode v.state] ++ encodeConfig v.config ++ [indications v, byteOfNat v.onset] ++
    bytes16 v.darkEntries ++ bytes16 v.dampEntries

/-- State and generation, the payload of the group writes (R148). -/
def groupPayload (r : Group) : List Byte := groupStateCode r.state :: bytes32 r.gen

/-- Whether a port's slot for g holds a copy of g (R130). -/
def Port.holdsCopy (p : Port) (g : Nat) : Bool :=
  match sparseGet none p.slots (g % Config.slots) with
  | some c => c.group == g
  | none => false

/-- Read Group's payload (R149). The effective map and the copy indications of a group that is not ACTIVE are 255 and "no". Bits 2-7 of
the copies byte, which no table defines, are 0 (DESIGN CHOICE, log 32). -/
def readGroupPayload (g : Nat) (r : Group) (S : UplinkSet) (copy0 copy1 : Bool) : List Byte :=
  let active := r.state == .active
  bytes16 (BitVec.ofNat 16 g) ++ [groupStateCode r.state] ++ bytes32 r.gen ++
    [byteOfNat (modeCode r.mode), byteOfNat r.floor,
      byteOfNat ((if active && copy0 then 1 else 0) + (if active && copy1 then 2 else 0))] ++
    encodeMembers r.members ++ translate r.members r.map ++
    (if active then translate r.members (r.effectiveMap S) else unusedMap)

def surveyPayload (v : Survey) : List Byte :=
  bytes16 (BitVec.ofNat 16 v.active) ++ bytes16 (BitVec.ofNat 16 v.retiring) ++ bytes16 (BitVec.ofNat 16 v.free) ++
    bytes16 (BitVec.ofNat 16 (v.firstFree.getD 65535)) ++ bytes32 v.digest

/-- The Barrier payload: uplinks outstanding; bit 0 sweeps outstanding, bit 1 retracts outstanding (R153). Bits 2-7 of the outstanding
byte, which no table defines, are 0 (DESIGN CHOICE, log 32). -/
def barrierPayload (uplinks : UplinkSet) (sweeps retracts : Bool) : List Byte :=
  bytes32 uplinks ++ [byteOfNat ((if sweeps then 1 else 0) + (if retracts then 2 else 0))]

/-- The five counters of a port in their order (R172). -/
def portCounterBytes (c : PortCounters) : List Byte :=
  bytes32 c.answersOk ++ bytes32 c.answersNoRoute ++ bytes32 c.answersBusy ++ bytes32 c.retractsSent ++ bytes32 c.faults

/-- The 176 bytes of Read Counters (R172). -/
def countersPayload (s : State) : List Byte :=
  allUplinks.flatMap (fun u => bytes16 s.uplinks[u].darkEntries ++ bytes16 s.uplinks[u].dampEntries) ++
    portCounterBytes s.lp0.counters ++ portCounterBytes s.lp1.counters ++ bytes32 s.mgmt.walkVisits ++
    bytes32 s.mgmt.droppedRequests

end Sys2Proof.Machine
end

