-- ==== Sys2Proof/Machine/Ops.lean ====
section
/-! DEFINITION. The operations the meanings share: ports and groups by number, replies, the walk queue, Down Vectors, the settled
set, retracts, retirements, chains, the arbiter, port resets and the full reset. -/
namespace Sys2Proof.Machine

/-! ### Ports and groups -/

def State.port (s : State) : PortId → Port
  | .lp0 => s.lp0
  | .lp1 => s.lp1

def State.setPort (s : State) (i : PortId) (p : Port) : State :=
  match i with
  | .lp0 => { s with lp0 := p }
  | .lp1 => { s with lp1 := p }

/-- The group record g; a group not listed is FREE at generation 0 (R25). -/
def State.group (s : State) (g : Nat) : Group := sparseGet Group.reset s.table.groups g

def State.setGroup (s : State) (g : Nat) (r : Group) : State :=
  { s with table := { s.table with groups := sparseSet Group.reset s.table.groups g r } }

/-- A generation rises by 1; 4,294,967,295 rises to 1 (R29). -/
def nextGen (n : Generation) : Generation := if n = BitVec.allOnes 32 then 1#32 else n + 1#32

/-! ### The reset pin -/

/-- While PORST_N is held low every block is held at its full-reset values, and nothing else is taken (R46). -/
def unlessReset (s : State) (f : State → State) : Result := .next (if s.porst then s else f s)

/-! ### Replies and request frames (R134, R135, R137) -/

/-- Forms the reply of the request in progress (R135). -/
def formReply (status : ReplyStatus) (payload : List Byte) (s : State) : State :=
  { s with mgmt := { s.mgmt with iface := .replyReady { status := status, payload := payload } } }

/-- Makes the interface SERVING with this request in progress. -/
def beginServing (r : Request) (s : State) : State := { s with mgmt := { s.mgmt with iface := .serving r } }

/-- Discards a request frame judged while SERVING or REPLY_READY (R134). -/
def dropFrame (s : State) : State :=
  { s with mgmt := { s.mgmt with dropped := true, droppedRequests := satInc s.mgmt.droppedRequests } }

/-- A request frame of `clocked` bytes after its lead byte is judged (R134): discarded unseen while MRST_N is low (R133), served
when IDLE, dropped otherwise. SDO shifts out a fill byte in every byte of the frame, the lead byte's among them (R170). A frame
under way at a reset does not come here: `linkEvent` discards it (log 30). -/
def judgeFrame (clocked : Nat) (serve : State → State) (s : State) : State :=
  if s.mrst then s
  else
    let s' := { s with mgmt := { s.mgmt with sdo := List.replicate (clocked + 1) Config.fill } }
    match s.mgmt.iface with
    | .idle => serve s'
    | _ => dropFrame s'

/-- Takes a request frame whose payload has this decoder: BAD_REQUEST when it is malformed (R137, R138). -/
def takeRequest {α : Type} (dec : List Byte → Option α) (rest : List Byte) (serve : α → State → State) (s : State) : State :=
  judgeFrame rest.length (fun s' =>
    match (payloadOf rest).bind dec with
    | none => formReply .badRequest [] s'
    | some a => serve a s') s

/-- Takes a request frame of a kind that two rows share, when the frame is of this row (log 4). -/
def takeOwnRequest {α : Type} (dec : List Byte → Option α) (own : α → Bool) (rest : List Byte) (serve : α → State → State)
    (s : State) : State :=
  if rowOf dec own rest then takeRequest dec rest serve s else s

/-- A request that is not served during INIT (R141). -/
def whenReady (serve : State → State) (s : State) : State :=
  if s.table.ready then serve s else formReply .notReady [] s

/-! ### The Barrier's test (R152) -/

/-- The set of one uplink. -/
def only (u : Fin 32) : UplinkSet := BitVec.ofFnLE fun v : Fin 32 => v == u

/-- The uplink of an uplink job, as a set. -/
def WaitingJob.uplinks : WaitingJob → UplinkSet
  | .uplink u => only u
  | .sweep _ _ => 0#32

def RunningJob.uplinks : RunningJob → UplinkSet
  | .uplink u _ => only u
  | .sweep _ _ _ => 0#32

/-- The uplinks that have an uplink job waiting or in progress. -/
def Walk.uplinks (w : Walk) : UplinkSet :=
  w.queue.foldl (fun m j => m ||| j.uplinks) (match w.job with
    | some j => j.uplinks
    | none => 0#32)

def WaitingJob.isSweep : WaitingJob → Bool
  | .sweep _ _ => true
  | .uplink _ => false

/-- A sweep job waits or is in progress. -/
def Walk.sweeping (w : Walk) : Bool :=
  w.queue.any WaitingJob.isSweep || (match w.job with
    | some (.sweep _ _ _) => true
    | _ => false)

/-- What a Barrier still waits for: uplinks, sweeps, retracts (R153). -/
def barrierOutstanding (b : BarrierTest) (s : State) : UplinkSet × Bool × Bool :=
  (b.uplinks &&& s.walk.uplinks, b.sweeps && s.walk.sweeping,
    b.retracts && !(s.lp0.retracts.isEmpty && s.lp1.retracts.isEmpty))

/-- The Barrier's test (R152). -/
def barrierHolds (b : BarrierTest) (s : State) : Bool := barrierOutstanding b s == (0#32, false, false)

/-- Ends the Barrier in progress: its timer is stopped and its reply carries what remains (R152, R153). -/
def barrierReply (status : ReplyStatus) (b : BarrierTest) (s : State) : State :=
  let o := barrierOutstanding b s
  formReply status (barrierPayload o.1 o.2.1 o.2.2) { s with mgmt := { s.mgmt with barrierTimer := .stopped } }

/-- Evaluates the test of a waiting Barrier again; done at the end of a change that can make it hold (R152, log 10). -/
def barrierCheck (s : State) : State :=
  match s.mgmt.iface with
  | .serving (.barrier b) => if barrierHolds b s then barrierReply .ok b s else s
  | _ => s

/-! ### The walk queue (R69, R71, R72, R85) -/

/-- Takes jobs from the head of the queue until one is in progress: an uplink job whose chain is empty ends at once. -/
def startFrom (chains : Vector (List Nat) 32) : List WaitingJob → Option RunningJob × List WaitingJob
  | [] => (none, [])
  | .sweep first count :: q => (some (.sweep first count first), q)
  | .uplink u :: q =>
    match chains[u].head? with
    | none => startFrom chains q
    | some g => (some (.uplink u (some g)), q)

/-- With no job in progress, takes the next job; when the queue runs out the engine is IDLE and WALK_IDLE is set (R85). -/
def takeNextJob (s : State) : State :=
  let r := startFrom s.table.chains s.walk.queue
  barrierCheck (State.raiseIf { s with walk := { queue := r.2, job := r.1 } } r.1.isNone flagWalkIdle)

/-- The IDLE engine starts when the queue is not empty (R71). -/
def startIfIdle (s : State) : State :=
  if s.walk.job.isNone && !s.walk.queue.isEmpty then takeNextJob s else s

/-- The job in progress ends (R71, R85). -/
def endJob (s : State) : State := takeNextJob { s with walk := { s.walk with job := none } }

/-- Appends an uplink job, in ascending order, for each uplink that moved and has none waiting (R69). -/
def queueJobs (moved : UplinkSet) (q : List WaitingJob) : List WaitingJob :=
  q ++ ((allUplinks.filter fun u => moved.getLsbD u.val && !q.contains (.uplink u)).map .uplink)

/-! ### Ack timer and Down Vectors (R98, R105) -/

/-- The ack timeout in µs. -/
def ackTime (timeout : Byte) : Nat := timeout.toNat * 100

/-- Starts the ack timer if it is stopped. -/
def Port.startAckTimer (timeout : Byte) (p : Port) : Port :=
  match p.ackTimer with
  | .stopped => { p with ackTimer := .running (ackTime timeout) }
  | .running _ => p

/-- A Down Vector is outstanding or a retract entry is SENT. -/
def Port.awaitsAck (p : Port) : Bool := p.outstanding.isSome || p.retracts.any (·.mark == .sent)

/-- After a matching acknowledgement: restarts the ack timer, or stops it when nothing awaits any longer. -/
def Port.rearmAckTimer (timeout : Byte) (p : Port) : Port :=
  { p with ackTimer := if p.awaitsAck then .running (ackTime timeout) else .stopped }

/-- The sequence after `n`: from 255 it goes to 1 (R98). -/
def nextSequence (n : Byte) : Byte := if n = 255#8 then 1#8 else n + 1#8

/-- Forms a Down Vector naming the uplinks not in the live set (R98). -/
def Port.formVector (live : UplinkSet) (timeout : Byte) (p : Port) : Port :=
  let v : DownVector := { sequence := p.nextSeq, notLive := ~~~live }
  Port.startAckTimer timeout
    { p with nextSeq := nextSequence p.nextSeq, outstanding := some v, transmit := p.transmit ++ [.downVector v] }

/-- The port is in SYNC or UP: it takes messages and forms vectors. -/
def Port.serves (p : Port) : Bool := p.state == .sync || p.state == .up

/-- A report of a live-set change reaches the port: `left` leave the acknowledged up-set whatever the state (R100); a port in SYNC
or UP forms a vector, or sets the pending flag when one is outstanding (R98). -/
def Port.takeReport (left live : UplinkSet) (timeout : Byte) (p : Port) : Port :=
  let p' := { p with ackUp := p.ackUp &&& ~~~left }
  if p.serves then
    if p.outstanding.isNone then p'.formVector live timeout else { p' with pendingFlag := true }
  else p'

/-! ### The settled set (R101, R102) -/

/-- What a port lets into the settled set: its acknowledged up-set in UP, everything otherwise. -/
def Port.admits (p : Port) : UplinkSet := if p.state = .up then p.ackUp else BitVec.allOnes 32

/-- The live set, intersected with the acknowledged up-set of every port in UP (R101). -/
def settledOf (live : UplinkSet) (p0 p1 : Port) : UplinkSet := live &&& p0.admits &&& p1.admits

/-- Recomputes the settled set and queues an uplink job for each uplink that joined or left (R102, R69). -/
def resettle (s : State) : State :=
  let new := settledOf s.live s.lp0 s.lp1
  startIfIdle { s with settled := new, walk := { s.walk with queue := queueJobs (new ^^^ s.settled) s.walk.queue } }

/-- Uplink Watch's report of a new live set (R22): both ports take it and the settled set is recomputed (R98, R100, R101). -/
def reportLive (live : UplinkSet) (s : State) : State :=
  if live = s.live then s
  else
    let left := s.live &&& ~~~live
    resettle { s with live := live
                      lp0 := s.lp0.takeReport left live s.ackTimeout
                      lp1 := s.lp1.takeReport left live s.ackTimeout }

/-! ### Answers (R93) -/

/-- Joins every Answer whose Resolves ahead have all had theirs join: the list after, and the messages that join. -/
def joinAnswers : List ResolveEntry → List ResolveEntry × List LaneMessage
  | [] => ([], [])
  | e :: t =>
    if e.joined then
      let r := joinAnswers t
      (e :: r.1, r.2)
    else
      match e.answer with
      | some a =>
        let r := joinAnswers t
        ({ e with joined := true } :: r.1, .answer a :: r.2)
      | none => (e :: t, [])

/-- The transmit order gains the Answers that may join. -/
def Port.joinReady (p : Port) : Port :=
  let r := joinAnswers p.answers
  { p with answers := r.1, transmit := p.transmit ++ r.2 }

/-- An entry that needs an access and has not yet had one. -/
def ResolveEntry.unserved (e : ResolveEntry) : Bool := e.needsAccess && e.answer.isNone

/-- Gives the oldest unserved entry its Answer. -/
def answerOldest (f : ResolveEntry → Answer) : List ResolveEntry → List ResolveEntry
  | [] => []
  | e :: t => if e.unserved then { e with answer := some (f e) } :: t else e :: answerOldest f t

/-! ### Retracts (R117 to R121) -/

def sentCount (l : List RetractEntry) : Nat := l.countP (·.mark == .sent)

/-- Marks the oldest WAITING entry SENT. -/
def markOldest : List RetractEntry → List RetractEntry
  | [] => []
  | e :: t => if e.mark == .waiting then { e with mark := .sent } :: t else e :: markOldest t

/-- Sends the oldest WAITING entry if fewer than 64 entries are SENT (R121). -/
def Port.sendRetract (timeout : Byte) (p : Port) : Port :=
  match p.retracts.find? (·.mark == .waiting) with
  | none => p
  | some e =>
    if sentCount p.retracts < Config.maxSent then
      Port.startAckTimer timeout
        { p with retracts := markOldest p.retracts, transmit := p.transmit ++ [.retract e.group e.gen],
                 counters := { p.counters with retractsSent := satInc p.counters.retractsSent } }
    else p

/-- A WAITING entry for group g. -/
def RetractEntry.waitsFor (g : Nat) (e : RetractEntry) : Bool := e.mark == .waiting && e.group == g

/-- Raises a WAITING entry for group g to generation n; other entries stay (R118). -/
def RetractEntry.raiseFor (g : Nat) (n : Generation) (e : RetractEntry) : RetractEntry :=
  if e.waitsFor g then { e with gen := n } else e

/-- Empties the port's slot for g. -/
def Port.emptySlot (g : Nat) (p : Port) : Port :=
  { p with slots := sparseSet none p.slots (g % Config.slots) none }

/-- A change of group g to generation n reaches a port (R118): a slot holding a copy of g is emptied; a WAITING entry for g is raised,
or one is appended for the copy; then a retract is sent if one may be. DEDUCED: the copy's generation does not matter (log 9). -/
def Port.takeChange (g : Nat) (n : Generation) (timeout : Byte) (p : Port) : Port :=
  let holds := p.holdsCopy g
  let p' := if holds then p.emptySlot g else p
  if p.retracts.any (·.waitsFor g) then
    Port.sendRetract timeout { p' with retracts := p.retracts.map (RetractEntry.raiseFor g n) }
  else if holds then
    Port.sendRetract timeout { p' with retracts := p.retracts ++ [{ group := g, gen := n, mark := .waiting }] }
  else p'

/-- The Path Table reports a generation change or a retirement to the Copy Directory (R44, R118, R119). -/
def reportChange (g : Nat) (n : Generation) (s : State) : State :=
  { s with lp0 := s.lp0.takeChange g n s.ackTimeout, lp1 := s.lp1.takeChange g n s.ackTimeout }

/-! ### Retirements (R36, R127) -/

/-- Some retract entry on either port names g. -/
def State.named (s : State) (g : Nat) : Bool := s.lp0.retracts.any (·.group == g) || s.lp1.retracts.any (·.group == g)

/-- A group whose retirement has completed: FREE content, the generation raised by 1 (R36). -/
def Group.completed (r : Group) : Group := { Group.reset with gen := nextGen r.gen }

/-- Group g completes its retirement if it is RETIRING and no entry names it. -/
def completeGroup (g : Nat) (s : State) : State :=
  if (s.group g).state == .retiring && !s.named g then (s.setGroup g (s.group g).completed).raise flagRetired else s

/-- Every RETIRING group that no entry names completes; RETIRED is set once if any does (R91, R128). -/
def completeAll (s : State) : State :=
  let done := fun (g : Nat) (r : Group) => r.state == .retiring && !s.named g
  State.raiseIf
    { s with table := { s.table with
        groups := sparseMap Group.reset (fun g r => if done g r then r.completed else r) s.table.groups } }
    (s.table.groups.any fun e => done e.1 e.2) flagRetired

/-! ### Port reset and protocol errors (R91, R107) -/

/-- What a port reset leaves of the port itself: the next sequence, the counters and the lane's lock are kept. A message half sent on the
lane is discarded with the transmit order, and the record `sent` gains no characters of it (DESIGN CHOICE, log 36). -/
def Port.emptied (p : Port) (new : PortState) : Port :=
  { p with state := new, answers := [], unanswered := 0, transmit := [], outstanding := none, pendingFlag := false,
           ackUp := 0#32, ackTimer := .stopped, slots := [], retracts := [] }

/-- The entry of a port to DOWN or FAULT (R90, R91, R128). -/
def portReset (i : PortId) (new : PortState) (s : State) : State :=
  let p := s.port i
  let p' := p.emptied new
  let p'' := if new = .fault then { p' with counters := { p'.counters with faults := satInc p'.counters.faults } } else p'
  let s1 := completeAll (s.setPort i p'')
  let s2 := (s1.raise flagPort).raiseIf (new == .fault) flagFault
  barrierCheck (if p.state = .up then resettle s2 else s2)

/-- A protocol error takes a port in SYNC or UP to FAULT (R107). -/
def protocolError (i : PortId) (s : State) : State := if (s.port i).serves then portReset i .fault s else s

/-! ### Reference chains (R38 to R41) -/

/-- The uplinks a member list relates to: its members' uplinks and their watched uplinks (R38). -/
def related (ms : List Member) : UplinkSet :=
  BitVec.ofFnLE fun u : Fin 32 => ms.any fun m => m.uplink == u || m.terms.any fun t => t.watched == u

/-- The link after g on a chain, or the chain's end. -/
def successor (g : Nat) : List Nat → Option Nat
  | [] => none
  | h :: t => if h = g then t.head? else successor g t

/-- A chain after an access that changes whether g relates to its uplink from `was` to `is` (R39). -/
def editChain (g : Nat) (was is : Bool) (c : List Nat) : List Nat :=
  if was && !is then c.erase g
  else if is && !was && !c.contains g then c ++ [g]
  else c

/-- The cursor after the same edit of the chain `c` it walks (R40). -/
def editCursor (g : Nat) (was is : Bool) (c : List Nat) (cursor : Option Nat) : Option Nat :=
  if was && !is then (if cursor = some g then successor g c else cursor)
  else if is && !was && !c.contains g && cursor.isNone then some g
  else cursor

/-- Links in use. -/
def linksIn (chains : Vector (List Nat) 32) : Nat := (allUplinks.map fun u => chains[u].length).sum

/-- The job in progress after the edit of the chains for group g. -/
def editJob (g : Nat) (old new : UplinkSet) (chains : Vector (List Nat) 32) : Option RunningJob → Option RunningJob
  | some (.uplink u cursor) =>
    some (.uplink u (editCursor g (old.getLsbD u.val) (new.getLsbD u.val) chains[u] cursor))
  | j => j

/-- Group g's relation goes from `old` to `new`: the chains, the link pool and the cursor (R39, R40, R41). -/
def relink (g : Nat) (old new : UplinkSet) (s : State) : State :=
  let chains := Vector.ofFn fun u : Fin 32 => editChain g (old.getLsbD u.val) (new.getLsbD u.val) s.table.chains[u]
  { s with table := { s.table with chains := chains
                                   freeLinks := s.table.freeLinks + linksIn s.table.chains - linksIn chains }
           walk := { s.walk with job := editJob g old new s.table.chains s.walk.job } }

/-! ### The arbiter (R42) -/

/-- A requester has an access waiting. -/
def State.waits (s : State) : Requester → Bool
  | .lp0 => s.lp0.answers.any ResolveEntry.unserved
  | .lp1 => s.lp1.answers.any ResolveEntry.unserved
  | .walk => s.walk.job.isSome
  | .mgmt =>
    match s.mgmt.iface with
    | .serving (.group _) => true
    | .serving (.survey _) => true
    | _ => false

/-- The requesters in cyclic order, from the one that follows the last granted. -/
def cyclicAfter : Requester → List Requester
  | .mgmt => [.lp0, .lp1, .walk, .mgmt]
  | .lp0 => [.lp1, .walk, .mgmt, .lp0]
  | .lp1 => [.walk, .mgmt, .lp0, .lp1]
  | .walk => [.mgmt, .lp0, .lp1, .walk]

/-- The requester the arbiter grants now; none during INIT (R47). -/
def State.grantee (s : State) : Option Requester :=
  if s.table.ready then (cyclicAfter s.table.lastGranted).find? s.waits else none

/-- The resolve service of a port as a requester. -/
def requesterOf : PortId → Requester
  | .lp0 => .lp0
  | .lp1 => .lp1

/-- One granted access of a requester; it takes place only when the arbiter grants that requester (log 6). -/
def access (q : Requester) (f : State → State) (s : State) : State :=
  if s.grantee = some q then f { s with table := { s.table with lastGranted := q } } else s

/-! ### Persisting a placement (R43, R73, R80) -/

/-- A visit writes a placement that differs from the stored map, raises the generation and reports the change. -/
def persist (g : Nat) (map : BucketMap) (s : State) : State :=
  let r := s.group g
  if map = r.map then s
  else reportChange g (nextGen r.gen) (s.setGroup g { r with map := map, gen := nextGen r.gen })

/-- Counts a visit access that reads a group record (R86). -/
def countVisit (s : State) : State := { s with mgmt := { s.mgmt with walkVisits := satInc s.mgmt.walkVisits } }

/-! ### A frame cut by a reset (R133) -/

/-- The assertion of MRST_N or a full reset cuts the frame in progress: it is discarded when it ends, whatever is clocked until then. -/
def Link.cutShort (l : Link) : Link := { Link.idle with selected := l.selected, cut := l.selected }

/-! ### Full reset (R46, R112, R155) -/

/-- The full-reset values of every block. The pins and the lanes' locks are outside the reset; the queue is the model's own. A message half
received goes on being received (DESIGN CHOICE, log 35); one half sent is discarded (DESIGN CHOICE, log 36). A frame in progress on
the management link is cut (R133). -/
def State.fullReset (s : State) : State :=
  { State.reset with
    lp0 := { Port.reset with locked := s.lp0.locked }
    lp1 := { Port.reset with locked := s.lp1.locked }
    link := s.link.cutShort, porst := s.porst, mrst := s.mrst, pending := s.pending }

/-- A port gains its lane: SYNC, with a Down Vector at once (R90, R98). -/
def enterSync (i : PortId) (s : State) : State :=
  let p := s.port i
  (s.setPort i (Port.formVector s.live s.ackTimeout { p with state := .sync })).raise flagPort

/-- The end of a full reset: a lane whose lock held across it is taken as lock gained (R112). -/
def takeHeldLocks (s : State) : State :=
  let s1 := if s.lp0.locked then enterSync .lp0 s else s
  if s1.lp1.locked then enterSync .lp1 s1 else s1

end Sys2Proof.Machine
end

