-- ==== Sys2Proof/Machine/PathTable.lean ====
section
/-! DEFINITION. The Path Table's requests (02_the_path_table.md): Install, Modify, Retire and Read Group, and Range Survey (07, section
7.5). Each group request has two stages: its frame is judged and checked (R137), and its access is granted (R142). -/
namespace Sys2Proof.Machine

/-! ### The checks of a group request (R137, R139, R140) -/

/-- A member list is valid: 1 to 8 members, no uplink twice, at most 2 terms each, none watching its member's own uplink (R140). -/
def validMembers (ms : List Member) : Bool :=
  decide (1 ≤ ms.length ∧ ms.length ≤ Config.maxMembers ∧ (ms.map (·.uplink)).Nodup) &&
    ms.all fun m => decide (m.terms.length ≤ Config.maxTerms) && m.terms.all fun t => t.watched != m.uplink

/-- Checks 2 to 4 of R137 for a request naming group g; then the request waits for its access. -/
def presentGroupRequest (g : Nat) (members : Option (List Member)) (r : GroupRequest) : State → State :=
  whenReady fun s =>
    if Config.groups ≤ g then formReply .range [] s
    else if members.any fun ms => !validMembers ms then formReply .badRequest [] s
    else beginServing (.group r) s

/-- The reply of a group write: the group's state and generation as they stand (R148). -/
def groupReply (status : ReplyStatus) (g : Nat) (s : State) : State := formReply status (groupPayload (s.group g)) s

/-! ### Install Group (R30, R31) -/

/-- The floor as stored, clamped against the member list it arrives with (R27). -/
def clampFloor (carried : Byte) (ms : List Member) : Nat :=
  let primaries := ms.countP (·.role == .primary)
  if carried.toNat = 0 ∨ primaries = 0 then 1 else min carried.toNat primaries

/-- The record Install Group writes over a FREE group. -/
def installedGroup (f : InstallFields) (old : Group) (S : UplinkSet) : Group :=
  let floor := clampFloor f.floor f.members
  { state := .active, gen := nextGen old.gen, mode := f.mode, floor := floor, members := f.members,
    map := place .full f.members floor noneMap S }

/-- Install Group's access. -/
def installAccess (f : InstallFields) (s : State) : State :=
  let r := s.group f.group
  match r.state with
  | .active => groupReply .exists_ f.group s
  | .retiring => groupReply .pending f.group s
  | .free =>
    let r' := installedGroup f r s.settled
    groupReply .ok f.group
      (reportChange f.group r'.gen (relink f.group 0#32 (related f.members) (s.setGroup f.group r')))

def execInstallGroup (stage : AccessStage) (s : State) : Result :=
  unlessReset s fun s =>
    match stage with
    | .frame rest =>
      takeRequest decodeInstall rest (fun f => presentGroupRequest f.group (some f.members) (.install f)) s
    | .granted =>
      match s.mgmt.iface with
      | .serving (.group (.install f)) => access .mgmt (installAccess f) s
      | _ => s

/-! ### Modify Group (R32 to R34) -/

/-- The check of the expected generation (R32): the refusal it gives, or none when the request is applied. -/
def refusalOf (expected : Generation) (r : Group) : Option ReplyStatus :=
  match r.state with
  | .free => some .absent
  | .retiring => some .pending
  | .active => if expected ≠ 0#32 ∧ expected ≠ r.gen then some .stale else none

/-- The stored map rewritten from the old positions to the new ones, members matched by uplink (R33). -/
def rewriteMap (old new : List Member) (m : BucketMap) : BucketMap :=
  m.map fun b => b.bind fun p => (old[p]?).bind fun o => new.findIdx? fun n => n.uplink == o.uplink

/-- The content Modify Group gives an ACTIVE group, its generation not yet raised (R33, R34). -/
def modifiedGroup (f : ModifyFields) (old : Group) (S : UplinkSet) : Group :=
  let floor := clampFloor f.floor f.members
  { old with mode := f.mode, floor := floor, members := f.members,
             map := place .full f.members floor (rewriteMap old.members f.members old.map) S }

/-- The four compared fields of R34 are as they were. -/
def sameContent (a b : Group) : Bool := a.members == b.members && a.mode == b.mode && a.floor == b.floor && a.map == b.map

/-- Modify Group's access. -/
def modifyAccess (f : ModifyFields) (s : State) : State :=
  let r := s.group f.group
  match refusalOf f.expected r with
  | some status => groupReply status f.group s
  | none =>
    let r' := modifiedGroup f r s.settled
    if sameContent r r' then groupReply .ok f.group s
    else
      groupReply .ok f.group
        (reportChange f.group (nextGen r.gen)
          (relink f.group (related r.members) (related f.members)
            (s.setGroup f.group { r' with gen := nextGen r.gen })))

def execModifyGroup (stage : AccessStage) (s : State) : Result :=
  unlessReset s fun s =>
    match stage with
    | .frame rest =>
      takeRequest decodeModify rest (fun f => presentGroupRequest f.group (some f.members) (.modify f)) s
    | .granted =>
      match s.mgmt.iface with
      | .serving (.group (.modify f)) => access .mgmt (modifyAccess f) s
      | _ => s

/-! ### Retire Group (R32, R35) -/

/-- Retire Group's access; the retirement completes in it when no retract entry names the group (R36, R119). -/
def retireAccess (g : Nat) (expected : Generation) (s : State) : State :=
  let r := s.group g
  match refusalOf expected r with
  | some status => groupReply status g s
  | none =>
    let r' := { r with state := .retiring, gen := nextGen r.gen }
    groupReply .ok g (completeGroup g (reportChange g r'.gen (relink g (related r.members) 0#32 (s.setGroup g r'))))

def execRetireGroup (stage : AccessStage) (s : State) : Result :=
  unlessReset s fun s =>
    match stage with
    | .frame rest => takeRequest decodeRetire rest (fun f => presentGroupRequest f.1 none (.retire f.1 f.2)) s
    | .granted =>
      match s.mgmt.iface with
      | .serving (.group (.retire g expected)) => access .mgmt (retireAccess g expected) s
      | _ => s

/-! ### Read Group (R149) -/

def readAccess (g : Nat) (s : State) : State :=
  formReply .ok (readGroupPayload g (s.group g) s.settled (s.lp0.holdsCopy g) (s.lp1.holdsCopy g)) s

def execReadGroup (stage : AccessStage) (s : State) : Result :=
  unlessReset s fun s =>
    match stage with
    | .frame rest => takeRequest decodeReadGroup rest (fun g => presentGroupRequest g none (.read g)) s
    | .granted =>
      match s.mgmt.iface with
      | .serving (.group (.read g)) => access .mgmt (readAccess g) s
      | _ => s

/-! ### Range Survey (R150, R151) -/

/-- A range is refused: its count is 0, or it runs past the table (R139). -/
def rangeRefused (first count : Nat) : Bool := count == 0 || Config.groups < first + count

def execRangeSurvey (rest : List Byte) (s : State) : Result :=
  unlessReset s (takeRequest decodeRange rest fun f => whenReady fun s =>
    if rangeRefused f.1 f.2 then formReply .range [] s
    else
      beginServing (.survey { next := f.1, left := f.2, active := 0, retiring := 0, free := 0, firstFree := none,
                              digest := 0#32 }) s)

/-- The group word of the digest (R151). -/
def groupWord (g : Nat) (r : Group) : Nat := g * 65536 + r.members.length * 256 + modeCode r.mode * 16 + r.floor

/-- The member word of the member at position i, and its term words (R151). -/
def memberWords (i : Nat) (m : Member) : Nat :=
  (i * 2 ^ 24 + m.uplink.val * 65536 + roleCode m.role * 256 + m.weight.val) +
    (m.terms.map fun t => i * 2 ^ 24 + 2 ^ 23 + t.watched.val * 65536 + wantCode t.want).sum

/-- What an ACTIVE group adds to the digest, modulo 2^32 (R151). -/
def groupDigest (g : Nat) (r : Group) : BitVec 32 :=
  BitVec.ofNat 32 (groupWord g r + (r.members.zipIdx.map fun e => memberWords e.2 e.1).sum)

/-- The survey after the access that reads its next group. -/
def Survey.read (r : Group) (v : Survey) : Survey :=
  let w := { v with next := v.next + 1, left := v.left - 1 }
  match r.state with
  | .active => { w with active := v.active + 1, digest := v.digest + groupDigest v.next r }
  | .retiring => { w with retiring := v.retiring + 1 }
  | .free => { w with free := v.free + 1, firstFree := if v.firstFree.isNone then some v.next else v.firstFree }

/-- One access of the survey; after the last group the reply is formed. -/
def surveyAccess (v : Survey) (s : State) : State :=
  let w := v.read (s.group v.next)
  if w.left = 0 then formReply .ok (surveyPayload w) s else beginServing (.survey w) s

def execRangeSurveyAccess (s : State) : Result :=
  unlessReset s fun s =>
    match s.mgmt.iface with
    | .serving (.survey v) => access .mgmt (surveyAccess v) s
    | _ => s

end Sys2Proof.Machine
end

