-- ==== Sys2Proof/Machine/WalkEngine.lean ====
section
/-! DEFINITION. The Walk Engine's steps (04_reroute_walks.md): Rebalance Range and the accesses of the job in progress. -/
namespace Sys2Proof.Machine

/-- The waiting sweep jobs (R68). -/
def sweepsWaiting (q : List WaitingJob) : Nat := q.countP WaitingJob.isSweep

/-- Rebalance Range (R70): a sweep job is appended, or BUSY when 8 wait; the IDLE engine starts it (R71). -/
def rebalance (first count : Nat) (s : State) : State :=
  if rangeRefused first count then formReply .range [] s
  else if Config.maxSweeps ≤ sweepsWaiting s.walk.queue then formReply .busy [] s
  else formReply .ok [] (startIfIdle { s with walk := { s.walk with queue := s.walk.queue ++ [.sweep first count] } })

def execRebalanceRange (rest : List Byte) (s : State) : Result :=
  unlessReset s (takeRequest decodeRange rest fun f => whenReady (rebalance f.1 f.2))

/-- The visit of group g by the uplink job for u (R73): place, persist, count, advance the cursor; at the chain's end the job ends
within the access. -/
def uplinkVisit (u : Fin 32) (g : Nat) (s : State) : State :=
  let s1 := countVisit (persist g ((s.group g).effectiveMap s.settled) s)
  match successor g s.table.chains[u] with
  | some h => { s1 with walk := { s1.walk with job := some (.uplink u (some h)) } }
  | none => endJob s1

def execUplinkJobVisit (s : State) : Result :=
  unlessReset s fun s =>
    match s.walk.job with
    | some (.uplink u (some g)) => access .walk (uplinkVisit u g) s
    | _ => s

/-- An access granted with the cursor at the chain's end reads no group and ends the job (R74). -/
def execClosingAccess (s : State) : Result :=
  unlessReset s fun s =>
    match s.walk.job with
    | some (.uplink _ none) => access .walk endJob s
    | _ => s

/-- The placement of a sweep visit: full, whatever the mode (R50, R80). -/
def sweepMap (r : Group) (S : UplinkSet) : BucketMap := place .full r.members r.floor r.map S

/-- The visit of group `next` by a sweep job (R80); the last one ends the job and sets SWEEP_DONE (R82). -/
def sweepJobVisit (first count next : Nat) (s : State) : State :=
  let r := s.group next
  let s1 := countVisit (if r.state = .active then persist next (sweepMap r s.settled) s else s)
  if first + count ≤ next + 1 then endJob (s1.raise flagSweepDone)
  else { s1 with walk := { s1.walk with job := some (.sweep first count (next + 1)) } }

def execSweepVisit (s : State) : Result :=
  unlessReset s fun s =>
    match s.walk.job with
    | some (.sweep first count next) => access .walk (sweepJobVisit first count next) s
    | _ => s

end Sys2Proof.Machine
end

