-- ==== Sys2Proof/Machine/LookupPorts.lean ====
section
/-! DEFINITION. The Lookup Ports block's steps (05_lookup_ports_and_the_settled_set.md), with Retract Done (06, R124 to R127). -/
namespace Sys2Proof.Machine

/-! ### Lane lock (R90, R168) -/

/-- The lane's lock is tracked through a full reset; a DOWN port that gains it enters SYNC (R90, R112).
DESIGN CHOICE: in another state only the lock is recorded (log 3). -/
def execLaneLockGained (i : PortId) (s : State) : Result :=
  let s1 := s.setPort i { s.port i with locked := true }
  .next (if s.porst then s1 else if (s.port i).state = .down then enterSync i s1 else s1)

/-- A port in SYNC, UP or FAULT that loses its lane enters DOWN with a port reset (R90, R91).
DESIGN CHOICE: in DOWN only the lock is recorded (log 3). -/
def execLaneLockLost (i : PortId) (s : State) : Result :=
  let s1 := s.setPort i { s.port i with locked := false }
  .next (if s.porst then s1 else if (s.port i).state = .down then s1 else portReset i .down s1)

/-! ### Resolves (R94 to R96) -/

/-- A short Answer: the index as received and the status (R94, R169). -/
def shortAnswer (index : BitVec 16) (status : AnswerStatus) : Answer := { index := index, status := status, body := none }

/-- The status of an Answer decided at the Resolve's arrival; none when it takes an access (R94). -/
def arrivalStatus (p : Port) (ready : Bool) (index : BitVec 16) : Option AnswerStatus :=
  if p.state = .sync then some .notReady
  else if !ready then some .notReady
  else if Config.groups ≤ index.toNat then some .badGroup
  else if Config.maxUnanswered ≤ p.unanswered then some .busy
  else none

/-- A taken Resolve is appended to the answer order list; a short Answer joins as soon as it may (R93, R94). -/
def Port.appendResolve (ready : Bool) (index : BitVec 16) (p : Port) : Port :=
  let status := arrivalStatus p ready index
  let e : ResolveEntry :=
    { index := index, needsAccess := status.isNone, answer := status.map (shortAnswer index), joined := false }
  Port.joinReady
    { p with answers := p.answers ++ [e], unanswered := if status.isNone then p.unanswered + 1 else p.unanswered }

def execResolve (i : PortId) (index : BitVec 16) (s : State) : Result :=
  unlessReset s fun s =>
    let p := s.port i
    if !p.serves then s
    else if Config.maxAnswers ≤ p.answers.length then protocolError i s
    else s.setPort i (p.appendResolve s.table.ready index)

/-- The Answer of a Resolve's access to a group record (R96). -/
def accessAnswer (index : BitVec 16) (r : Group) (S : UplinkSet) : Answer :=
  if r.state = .active then
    let anyActive := (activeSet S r.floor r.members).any id
    { index := index, status := if anyActive then .ok else .noLive,
      body := some (r.gen, translate r.members (r.effectiveMap S)) }
  else shortAnswer index .noRoute

/-- Sets the port's slot for g to COPY(g, n) (R115). -/
def Port.recordCopy (g : Nat) (n : Generation) (p : Port) : Port :=
  { p with slots := sparseSet none p.slots (g % Config.slots) (some { group := g, gen := n }) }

/-- The access of the port's oldest unserved Resolve (R95, R96): the Answer is formed, the copy recorded for OK and NO_LIVE, and the
Answers that may join the transmit order. -/
def serveResolve (i : PortId) (s : State) : State :=
  let p := s.port i
  match p.answers.find? ResolveEntry.unserved with
  | none => s
  | some e =>
    let g := e.index.toNat
    let r := s.group g
    let p1 := { p with answers := answerOldest (fun _ => accessAnswer e.index r s.settled) p.answers }
    let p2 := if r.state = .active then p1.recordCopy g r.gen else p1
    s.setPort i p2.joinReady

def execResolveAccess (i : PortId) (s : State) : Result := unlessReset s (access (requesterOf i) (serveResolve i))

/-! ### Vector Ack (R99) -/

/-- A matching Vector Ack: the acknowledged up-set, the outstanding vector, the pending vector, and SYNC to UP. -/
def Port.acknowledge (v : DownVector) (live : UplinkSet) (timeout : Byte) (p : Port) : Port :=
  let p1 := { p with ackUp := ~~~v.notLive &&& live, outstanding := none }
  let p2 :=
    if p.pendingFlag then Port.formVector live timeout { p1 with pendingFlag := false }
    else if p.state = .sync then { p1 with state := .up }
    else p1
  p2.rearmAckTimer timeout

def execVectorAck (i : PortId) (sequence : Byte) (s : State) : Result :=
  unlessReset s fun s =>
    let p := s.port i
    if !p.serves then s
    else
      match p.outstanding with
      | none => protocolError i s
      | some v =>
        if v.sequence ≠ sequence then protocolError i s
        else
          let p' := p.acknowledge v s.live s.ackTimeout
          let s1 := (s.setPort i p').raiseIf (p'.state != p.state) flagPort
          if p'.state = .up then resettle s1 else s1

/-! ### Retract Done (R124, R125) -/

/-- A matching Retract Done: the oldest SENT entry goes, the oldest WAITING one is sent, the ack timer follows, and the group's
retirement completes if nothing names it any longer. -/
def takeRetractDone (i : PortId) (e : RetractEntry) (s : State) : State :=
  let p := s.port i
  let p1 := Port.sendRetract s.ackTimeout { p with retracts := p.retracts.eraseP (·.mark == .sent) }
  barrierCheck (completeGroup e.group (s.setPort i (p1.rearmAckTimer s.ackTimeout)))

def execRetractDone (i : PortId) (group : BitVec 16) (s : State) : Result :=
  unlessReset s fun s =>
    let p := s.port i
    match p.state with
    | .up =>
      match p.retracts.find? (·.mark == .sent) with
      | none => protocolError i s
      | some e => if e.group = group.toNat then takeRetractDone i e s else protocolError i s
    | .sync => protocolError i s
    | .down => s
    | .fault => s

/-! ### Other partner errors (R107) -/

/-- A message of an unknown kind is a protocol error (R107, R169). -/
def execUnknownKind (i : PortId) (bytes : List Byte) (s : State) : Result :=
  unlessReset s fun s => if decodeLane bytes = .unknown then protocolError i s else s

/-- A message of a known kind with another length is a protocol error (R107, R169). -/
def execWrongLengthMessage (i : PortId) (bytes : List Byte) (s : State) : Result :=
  unlessReset s fun s => if decodeLane bytes = .wrongLength then protocolError i s else s

/-- The ack timer expires: a protocol error (R105). A stopped timer does not expire. -/
def execAckTimerExpiry (i : PortId) (s : State) : Result :=
  unlessReset s fun s => if (s.port i).ackTimer = .stopped then s else protocolError i s

/-! ### Messages leaving (R93, R95, R97) -/

/-- The counter an Answer's status raises as it leaves (R97). -/
def PortCounters.countAnswer (st : AnswerStatus) (c : PortCounters) : PortCounters :=
  match st with
  | .ok => { c with answersOk := satInc c.answersOk }
  | .noRoute => { c with answersNoRoute := satInc c.answersNoRoute }
  | .busy => { c with answersBusy := satInc c.answersBusy }
  | .noLive => c
  | .badGroup => c
  | .notReady => c

/-- The Answer at the head of the transmit order has left: its entry leaves the answer order list (R95). -/
def Port.answerLeft (a : Answer) (rest : List LaneMessage) (p : Port) : Port :=
  { p with transmit := rest, answers := p.answers.tail,
           unanswered := if (p.answers.head?.map (·.needsAccess)).getD false then p.unanswered - 1 else p.unanswered,
           counters := p.counters.countAnswer a.status, sent := messageChars (.answer a) }

def execAnswerLeaves (i : PortId) (s : State) : Result :=
  unlessReset s fun s =>
    match (s.port i).transmit with
    | .answer a :: rest => s.setPort i ((s.port i).answerLeft a rest)
    | _ => s

/-- The Retract or Down Vector at the head of the transmit order has left (R93). -/
def execMessageLeaves (i : PortId) (s : State) : Result :=
  unlessReset s fun s =>
    match (s.port i).transmit with
    | [] => s
    | .answer _ :: _ => s
    | m :: rest => s.setPort i { s.port i with transmit := rest, sent := messageChars m }

end Sys2Proof.Machine
end

