-- ==== Sys2Proof/Machine/Management.lean ====
section
/-! DEFINITION. The requests the Management Interface, the Lookup Ports block and the event flags serve themselves, and the frames
that are no request (07, 08). -/
namespace Sys2Proof.Machine

/-! ### Identity, status, ports -/

def execIdentify (rest : List Byte) (s : State) : Result :=
  unlessReset s (takeRequest decodeEmpty rest fun _ => formReply .ok identifyPayload)

def execReadStatus (rest : List Byte) (s : State) : Result :=
  unlessReset s (takeRequest decodeEmpty rest fun _ s => formReply .ok (statusPayload s) s)

/-- The ack timeout as stored: 0 is stored as 1 (R106). -/
def clampTimeout (t : Byte) : Byte := if t = 0#8 then 1#8 else t

def execConfigurePorts (rest : List Byte) (s : State) : Result :=
  unlessReset s (takeRequest decodeConfigurePorts rest fun t s =>
    formReply .ok [clampTimeout t] { s with ackTimeout := clampTimeout t })

/-! ### Barrier (R152, R153) -/

/-- The time of a stored Barrier timeout in µs; 0 ms is stored as 1. -/
def barrierTime (t : BitVec 16) : Nat := (if t = 0#16 then 1 else t.toNat) * 1000

/-- Barrier is taken: the timer starts and the test is evaluated (R152). -/
def takeBarrier (f : BarrierFields) (s : State) : State :=
  barrierCheck
    (beginServing (.barrier { uplinks := f.uplinks, sweeps := f.sweeps, retracts := f.retracts })
      { s with mgmt := { s.mgmt with barrierTimer := .running (barrierTime f.timeout) } })

def execBarrier (rest : List Byte) (s : State) : Result :=
  unlessReset s (takeRequest decodeBarrier rest fun f => whenReady (takeBarrier f))

/-- The barrier timer expires while the Barrier waits (R153). -/
def execBarrierTimerExpiry (s : State) : Result :=
  unlessReset s fun s =>
    match s.mgmt.iface with
    | .serving (.barrier b) => if s.mgmt.barrierTimer = .stopped then s else barrierReply .timeout b s
    | _ => s

/-! ### Events and enables (R158, R160) -/

/-- Read Events returns and clears the flags both set and enabled (R160). -/
def takeEvents (s : State) : State :=
  let taken := s.mgmt.flags &&& s.mgmt.enables
  formReply .ok [taken] { s with mgmt := { s.mgmt with flags := s.mgmt.flags &&& ~~~taken } }

def execReadEvents (rest : List Byte) (s : State) : Result :=
  unlessReset s (takeRequest decodeEmpty rest fun _ => takeEvents)

/-- Stores the enables; the reply carries them (R158). -/
def setEnables (enables : Byte) (s : State) : State :=
  formReply .ok [enables] { s with mgmt := { s.mgmt with enables := enables } }

def execSetEventEnablesSet (rest : List Byte) (s : State) : Result :=
  unlessReset s (takeOwnRequest decodeSetEnables (fun f => f.1) rest fun f s => setEnables (s.mgmt.enables ||| f.2) s)

def execSetEventEnablesClear (rest : List Byte) (s : State) : Result :=
  unlessReset s (takeOwnRequest decodeSetEnables (fun f => !f.1) rest fun f s => setEnables (s.mgmt.enables &&& ~~~f.2) s)

/-! ### Counters (R163) -/

def execReadCounters (rest : List Byte) (s : State) : Result :=
  unlessReset s (takeOwnRequest decodeReadCounters (fun clear => !clear) rest fun _ s => formReply .ok (countersPayload s) s)

/-- Every one of the 76 counters is 0 (R163). -/
def clearCounters (s : State) : State :=
  { s with uplinks := Vector.ofFn fun u : Fin 32 => { s.uplinks[u] with darkEntries := 0#16, dampEntries := 0#16 }
           lp0 := { s.lp0 with counters := PortCounters.zero }
           lp1 := { s.lp1 with counters := PortCounters.zero }
           mgmt := { s.mgmt with walkVisits := 0#32, droppedRequests := 0#32 } }

def execReadCountersClear (rest : List Byte) (s : State) : Result :=
  unlessReset s (takeOwnRequest decodeReadCounters (fun clear => clear) rest fun _ s =>
    formReply .ok (countersPayload s) (clearCounters s))

/-! ### Full Reset, unknown kinds, drops and reads -/

/-- Full Reset is answered at once and the reset is owed (R154). -/
def execFullResetRequest (rest : List Byte) (s : State) : Result :=
  unlessReset s (takeRequest decodeEmpty rest fun _ s =>
    formReply .ok [] { s with mgmt := { s.mgmt with resetOwed := true } })

/-- A frame whose lead byte is no request kind is malformed (R138). -/
def execUnknownRequestKind (kind : Byte) (rest : List Byte) (s : State) : Result :=
  unlessReset s fun s =>
    if isUnknownRequestKind kind then judgeFrame rest.length (formReply .badRequest []) s else s

/-- A request frame that found the interface SERVING or REPLY_READY is dropped (R134); an IDLE interface drops none. -/
def execRequestDropped (frame : List Byte) (s : State) : Result :=
  unlessReset s fun s =>
    if isRequestFrame frame ∧ s.mgmt.iface ≠ .idle then judgeFrame (frame.length - 1) id s else s

/-- The full reset of the Full Reset request: the same as one on PORST_N, with the lanes' locks held across it (R154, R112). -/
def requestedReset (s : State) : State := takeHeldLocks s.fullReset

/-- A read frame (R135, R136): a waiting reply is shifted out with the dropped bit after the lead byte, in which SDO shows fill, and the
interface becomes IDLE, and a full reset that is owed follows; otherwise fill bytes are shifted out and nothing else changes
(log 12, log 23). -/
def readFrame (clocked : Nat) (s : State) : State :=
  if s.mrst then s
  else
    match s.mgmt.iface with
    | .replyReady r =>
      let s1 := { s with mgmt := { s.mgmt with iface := .idle, dropped := false, resetOwed := false } }
      let s2 := if s.mgmt.resetOwed then requestedReset s1 else s1
      { s2 with mgmt := { s2.mgmt with sdo := Config.fill :: shiftOut clocked (replyBytes r s.mgmt.dropped) } }
    | _ => { s with mgmt := { s.mgmt with sdo := List.replicate (clocked + 1) Config.fill } }

def execReadFrame (clocked : Nat) (s : State) : Result := unlessReset s (readFrame clocked)

end Sys2Proof.Machine
end

