-- ==== Sys2Proof/Machine/Resets.lean ====
section
/-! DEFINITION. The reset pins and the init sweep (R46 to R48, R143, R112). -/
namespace Sys2Proof.Machine

/-- What a management reset holds: the interface IDLE, nothing in progress or waiting, the enables cleared; the event flags and the two
device counters are kept (R143). -/
def Mgmt.heldReset (m : Mgmt) : Mgmt :=
  { m with iface := .idle, resetOwed := false, dropped := false, barrierTimer := .stopped, enables := 0#8 }

/-- MRST_N falls (R143): a frame in progress is cut (R133). The pin is tracked while PORST_N is low as well. -/
def execMrstNAssert (s : State) : Result := .next { s with mgmt := s.mgmt.heldReset, link := s.link.cutShort, mrst := true }

/-- MRST_N rises: the IDLE interface takes frames again (R143). -/
def execMrstNRelease (s : State) : Result := .next { s with mrst := false }

/-- PORST_N falls: every block takes its full-reset values and is held there (R46). -/
def execPorstNAssert (s : State) : Result := .next (if s.porst then s else { s.fullReset with porst := true })

/-- PORST_N rises: the full reset ends, the init sweep starts, and a lane that held its lock is taken as lock gained (R46, R112). -/
def execPorstNRelease (s : State) : Result := .next (if s.porst then takeHeldLocks { s with porst := false } else s)

/-- The init sweep ends: every record FREE, every chain empty, every link in the pool, the arbiter's last-granted requester the
Management Interface, and the device READY with its flag (R46, R48). -/
def execInitSweepEnd (s : State) : Result :=
  unlessReset s fun s => 
    if s.table.ready then s else State.raise { s with table := { Table.reset with ready := true } } flagReady

end Sys2Proof.Machine
end

