-- ==== Sys2Proof/Machine/UplinkWatch.lean ====
section
/-! DEFINITION. Uplink Watch (01_uplink_watch.md): raw darkness, the uplink state machine, onsets and damping, the scan receiver, and
the meanings of their commands. -/
namespace Sys2Proof.Machine

/-! ### Entering a state (R9, R23) -/

def Uplink.enterLit (v : Uplink) : Uplink := { v with state := .lit, qualify := .stopped }

def Uplink.enterDark (v : Uplink) : Uplink :=
  { v with state := .dark, qualify := .stopped, darkEntries := satInc v.darkEntries }

/-- SUSPECT loads dark_qualify, in units of 10 µs. -/
def Uplink.enterSuspect (v : Uplink) : Uplink :=
  { v with state := .suspect, qualify := .running (v.config.darkQualify.toNat * 10) }

/-- RESTORING loads restore_time, in ms. -/
def Uplink.enterRestoring (v : Uplink) : Uplink :=
  { v with state := .restoring, qualify := .running (v.config.restoreTime.toNat * 1000) }

/-- DAMPED loads hold_time, in s; the count is cleared and its window stopped (R19). -/
def Uplink.enterDamped (v : Uplink) : Uplink :=
  { v with state := .damped, qualify := .running (v.config.holdTime.toNat * 1000000), onset := 0, window := .stopped,
           dampEntries := satInc v.dampEntries }

/-- With d false: RESTORING, or LIT when restore_time is 0 (R12, R14, R16). -/
def Uplink.enterReturn (v : Uplink) : Uplink := if v.config.restoreTime = 0#16 then v.enterLit else v.enterRestoring

/-- Out of DAMPED or ADMIN_DOWN, according to d (R14, R16). -/
def Uplink.enterByDarkness (v : Uplink) : Uplink := if v.d then v.enterDark else v.enterReturn

/-- An onset (R19): it is counted, and when it brings the count to flap_limit the uplink enters DAMPED in place of `enter`.
DEDUCED: it does at any count of at least the limit (log 25). -/
def Uplink.takeOnset (enter : Uplink → Uplink) (v : Uplink) : Uplink :=
  if v.config.flapLimit = 0#4 then enter v
  else if v.config.flapLimit.toNat ≤ v.onset + 1 then v.enterDamped
  else
    enter { v with onset := v.onset + 1
                   window := if v.onset = 0 then .running (v.config.flapWindow.toNat * 1000000) else v.window }

/-! ### Raw darkness (R7, R8) -/

def ScanCode.darkens (degradedIsDark : Bool) : ScanCode → Bool
  | .ok => false
  | .localFault => true
  | .remoteFault => true
  | .degraded => degradedIsDark

/-- The raw darkness of an uplink from its inputs (R7). -/
def Uplink.rawDark (v : Uplink) : Bool := (v.line && v.config.lineEnable) || v.code.darkens v.config.degradedIsDark

/-- A change of d, already recorded in the record, is taken in the uplink's state (R10 to R14). -/
def Uplink.takeChange (v : Uplink) : Uplink :=
  match v.state, v.d with
  | .lit, true => v.takeOnset fun w => if w.config.darkQualify = 0#8 then w.enterDark else w.enterSuspect
  | .suspect, false => v.enterLit
  | .dark, false => v.enterReturn
  | .restoring, true => v.takeOnset Uplink.enterDark
  | _, _ => v

/-- Re-evaluates d; a value other than the one held is an event (R8). -/
def Uplink.reevaluate (v : Uplink) : Uplink :=
  if v.rawDark = v.d then v else Uplink.takeChange { v with d := v.rawDark }

/-! ### Inputs and requests of one uplink -/

/-- The filtered line level takes a new value (R2). DESIGN CHOICE: a level already held changes nothing (log 3). -/
def Uplink.setLine (level : Bool) (v : Uplink) : Uplink :=
  if level = v.line then v else Uplink.reevaluate { v with line := level }

/-- The last scan code takes a value; d is re-evaluated when it differs from the old one (R5, R3). -/
def Uplink.setCode (c : ScanCode) (v : Uplink) : Uplink :=
  if c = v.code then v else Uplink.reevaluate { v with code := c }

/-- The qualify timer of a SUSPECT uplink expires (R11). -/
def Uplink.qualifyExpired (v : Uplink) : Uplink :=
  if v.state = .suspect ∧ v.qualify ≠ .stopped then v.enterDark else v

/-- The restore time of a RESTORING uplink ends (R13). -/
def Uplink.restoreExpired (v : Uplink) : Uplink :=
  if v.state = .restoring ∧ v.qualify ≠ .stopped then v.enterLit else v

/-- The hold time of a DAMPED uplink ends (R14). -/
def Uplink.holdExpired (v : Uplink) : Uplink :=
  if v.state = .damped ∧ v.qualify ≠ .stopped then v.enterByDarkness else v

/-- The window timer expires (R19). -/
def Uplink.windowExpired (v : Uplink) : Uplink :=
  if v.window ≠ .stopped then { v with onset := 0, window := .stopped } else v

/-- Set Admin clear (R15). -/
def Uplink.adminClear (v : Uplink) : Uplink :=
  if v.state = .adminDown then v
  else { v with state := .adminDown, qualify := .stopped, window := .stopped, onset := 0 }

/-- Set Admin set (R16). -/
def Uplink.adminSet (v : Uplink) : Uplink := if v.state = .adminDown then v.enterByDarkness else v

/-- The clamps of Configure Uplink (R20). -/
def clampConfig (c : UplinkConfig) : UplinkConfig :=
  { c with flapWindow := if c.flapWindow = 0#8 then 1#8 else c.flapWindow
           holdTime := if c.holdTime = 0#16 then 1#16 else if 3600 < c.holdTime.toNat then 3600#16 else c.holdTime }

/-- Configure Uplink with clamped fields: a change of flap_limit clears the count first, then a change of line_enable or
degraded_is_dark re-evaluates d (R21). -/
def Uplink.configure (c : UplinkConfig) (v : Uplink) : Uplink :=
  let v1 := { v with config := c }
  let v2 := if c.flapLimit = v.config.flapLimit then v1 else { v1 with onset := 0, window := .stopped }
  if c.lineEnable = v.config.lineEnable ∧ c.degradedIsDark = v.config.degradedIsDark then v2 else v2.reevaluate

/-! ### A step of Uplink Watch (R18, R22) -/

/-- LIT and SUSPECT are live. -/
def UplinkState.isLive : UplinkState → Bool
  | .lit => true
  | .suspect => true
  | _ => false

/-- Entry to this state sets the UPLINK flag (R18). -/
def UplinkState.isFlagged : UplinkState → Bool
  | .suspect => false
  | .restoring => false
  | _ => true

/-- The set of uplinks in LIT or SUSPECT (R22). -/
def liveOf (us : Vector Uplink 32) : UplinkSet := BitVec.ofFnLE fun u : Fin 32 => us[u].state.isLive

/-- Some uplink entered DARK, LIT, DAMPED or ADMIN_DOWN in the step. -/
def anyEntered (old new : Vector Uplink 32) : Bool :=
  allUplinks.any fun u => new[u].state != old[u].state && new[u].state.isFlagged

/-- One step of the uplink records: the UPLINK flag is set once if any uplink entered a flagged state (R18), and a change of the live
set is reported (R22). -/
def watchStep (us : Vector Uplink 32) (s : State) : State :=
  reportLive (liveOf us) (State.raiseIf { s with uplinks := us } (anyEntered s.uplinks us) flagUplink)

/-- A step of one uplink. -/
def stepUplink (u : Fin 32) (f : Uplink → Uplink) (s : State) : State := watchStep (s.uplinks.set u (f s.uplinks[u])) s

/-- A step of every uplink of a set, all in one change. -/
def stepUplinks (us : UplinkSet) (f : Fin 32 → Uplink → Uplink) (s : State) : State :=
  watchStep (Vector.ofFn fun u : Fin 32 => if us.getLsbD u.val then f u s.uplinks[u] else s.uplinks[u]) s

/-! ### The meanings of the input and timer events -/

def execFilteredLineLevelChange (u : Fin 32) (level : Bool) (s : State) : Result :=
  unlessReset s (stepUplink u (Uplink.setLine level))

/-- The edges of the pulse on SCAN_LOAD that begins a frame (R4, R173). -/
def loadPulse : List ScanEdge := [.loadRise, .loadFall]

/-- The edges of a whole frame: the pulse on SCAN_LOAD, then a rising edge on SCAN_CLK for each bit (R4, R173). -/
def frameEdges : List ScanEdge := loadPulse ++ (List.replicate Config.scanBits [ScanEdge.clkRise, .clkFall]).flatten

/-- The part pulses SCAN_LOAD and a frame is in progress (R4). -/
def execScanFrameStart (s : State) : Result :=
  unlessReset s fun s => if s.scan.state = .off then s else { s with scan := { s.scan with inFrame := true, driven := loadPulse } }

/-- A frame with marker 0110 (R5). -/
def goodFrame (bits : BitVec 68) (s : State) : State :=
  stepUplinks (BitVec.allOnes 32) (fun u => Uplink.setCode (scanCodeOfBits (scanCodeBits bits u)))
    (State.raiseIf { s with scan := { s.scan with state := .tracking, bad := 0, inFrame := false, driven := frameEdges } }
      (s.scan.state == .stale) flagScan)

/-- A frame with another marker (R6). -/
def badFrame (s : State) : State :=
  let bad := min Config.staleAt (s.scan.bad + 1)
  let goesStale := s.scan.state == .tracking && bad == Config.staleAt
  State.raiseIf
    { s with scan := { s.scan with state := if goesStale then .stale else s.scan.state, bad := bad, inFrame := false,
                                   driven := frameEdges } }
    goesStale flagScan

/-- The frame in progress is judged whole (R4). -/
def execScanFrameJudged (bits : BitVec 68) (s : State) : Result :=
  unlessReset s fun s =>
    if s.scan.state = .off ∨ s.scan.inFrame = false then s
    else if scanMarker bits = 0b0110#4 then goodFrame bits s
    else badFrame s

def execQualifyTimerExpiry (u : Fin 32) (s : State) : Result := unlessReset s (stepUplink u Uplink.qualifyExpired)

def execRestoreTimerExpiry (u : Fin 32) (s : State) : Result := unlessReset s (stepUplink u Uplink.restoreExpired)

def execHoldTimerExpiry (u : Fin 32) (s : State) : Result := unlessReset s (stepUplink u Uplink.holdExpired)

def execWindowTimerExpiry (u : Fin 32) (s : State) : Result := unlessReset s (stepUplink u Uplink.windowExpired)

/-! ### The meanings of the uplink and scan requests (R147) -/

/-- Configure Uplink; the reply carries the eight bytes as stored (R20, R147). -/
def execConfigureUplink (rest : List Byte) (s : State) : Result :=
  unlessReset s (takeRequest decodeConfigureUplink rest fun f s =>
    formReply .ok (byteOfNat f.1.val :: encodeConfig (clampConfig f.2)) (stepUplink f.1 (Uplink.configure (clampConfig f.2)) s))

def execSetAdminClear (rest : List Byte) (s : State) : Result :=
  unlessReset s (takeOwnRequest decodeSetAdmin (fun f => !f.1) rest fun f s =>
    formReply .ok [] (stepUplinks f.2 (fun _ => Uplink.adminClear) s))

def execSetAdminSet (rest : List Byte) (s : State) : Result :=
  unlessReset s (takeOwnRequest decodeSetAdmin (fun f => f.1) rest fun f s =>
    formReply .ok [] (stepUplinks f.2 (fun _ => Uplink.adminSet) s))

/-- The clamp of the scan period (R3). -/
def clampPeriod (p : BitVec 16) : BitVec 16 := if p.toNat < 20 then 20#16 else if 2000 < p.toNat then 2000#16 else p

/-- Configure Scan's reply: the scan state after the request and the period as stored (R3). -/
def scanReply (s : State) : State := formReply .ok (scanStateCode s.scan.state :: bytes16 s.scan.period) s

/-- Configure Scan with enable yes (R3): out of OFF the codes are set to OK and the first frame starts at once, with its pulse on
SCAN_LOAD (log 15). -/
def enableScan (period : BitVec 16) (s : State) : State :=
  if s.scan.state = .off then
    stepUplinks (BitVec.allOnes 32) (fun _ => Uplink.setCode .ok)
      { s with scan := { state := .tracking, period := clampPeriod period, bad := 0, inFrame := true, driven := loadPulse } }
  else { s with scan := { s.scan with period := clampPeriod period } }

/-- Configure Scan with enable no (R3): a frame in progress is abandoned, SCAN_LOAD and SCAN_CLK are held low (R173, log 34); leaving STALE
sets the SCAN flag. -/
def disableScan (period : BitVec 16) (s : State) : State :=
  if s.scan.state = .off then { s with scan := { s.scan with period := clampPeriod period } }
  else
    stepUplinks (BitVec.allOnes 32) (fun _ => Uplink.setCode .ok)
      (State.raiseIf { s with scan := { state := .off, period := clampPeriod period, bad := 0, inFrame := false, driven := [] } }
        (s.scan.state == .stale) flagScan)

def execConfigureScanEnable (rest : List Byte) (s : State) : Result :=
  unlessReset s (takeOwnRequest decodeConfigureScan (fun f => f.1) rest fun f s => scanReply (enableScan f.2 s))

def execConfigureScanDisable (rest : List Byte) (s : State) : Result :=
  unlessReset s (takeOwnRequest decodeConfigureScan (fun f => !f.1) rest fun f s => scanReply (disableScan f.2 s))

/-- Read Uplink reports the record and changes nothing else (R24). -/
def execReadUplink (rest : List Byte) (s : State) : Result :=
  unlessReset s (takeRequest decodeReadUplink rest fun u s => formReply .ok (uplinkPayload u s.uplinks[u]) s)

end Sys2Proof.Machine
end

