-- ==== Sys2Proof/Machine/Dispatch.lean ====
section
/-! DEFINITION. exec: one direct call of a meaning for each command. -/
namespace Sys2Proof.Machine

def exec (i : Instr) (s : State) : Host.Outcome State Fault Refusal :=
  match i with
  | .filteredLineLevelChange uplink level => Sys2Proof.Machine.execFilteredLineLevelChange uplink level s
  | .scanFrameStart => Sys2Proof.Machine.execScanFrameStart s
  | .scanFrameJudged bits => Sys2Proof.Machine.execScanFrameJudged bits s
  | .qualifyTimerExpiry uplink => Sys2Proof.Machine.execQualifyTimerExpiry uplink s
  | .restoreTimerExpiry uplink => Sys2Proof.Machine.execRestoreTimerExpiry uplink s
  | .holdTimerExpiry uplink => Sys2Proof.Machine.execHoldTimerExpiry uplink s
  | .windowTimerExpiry uplink => Sys2Proof.Machine.execWindowTimerExpiry uplink s
  | .configureUplink rest => Sys2Proof.Machine.execConfigureUplink rest s
  | .setAdminClear rest => Sys2Proof.Machine.execSetAdminClear rest s
  | .setAdminSet rest => Sys2Proof.Machine.execSetAdminSet rest s
  | .configureScanEnable rest => Sys2Proof.Machine.execConfigureScanEnable rest s
  | .configureScanDisable rest => Sys2Proof.Machine.execConfigureScanDisable rest s
  | .readUplink rest => Sys2Proof.Machine.execReadUplink rest s
  | .installGroup stage => Sys2Proof.Machine.execInstallGroup stage s
  | .modifyGroup stage => Sys2Proof.Machine.execModifyGroup stage s
  | .retireGroup stage => Sys2Proof.Machine.execRetireGroup stage s
  | .readGroup stage => Sys2Proof.Machine.execReadGroup stage s
  | .rangeSurvey rest => Sys2Proof.Machine.execRangeSurvey rest s
  | .rangeSurveyAccess => Sys2Proof.Machine.execRangeSurveyAccess s
  | .rebalanceRange rest => Sys2Proof.Machine.execRebalanceRange rest s
  | .uplinkJobVisit => Sys2Proof.Machine.execUplinkJobVisit s
  | .closingAccess => Sys2Proof.Machine.execClosingAccess s
  | .sweepVisit => Sys2Proof.Machine.execSweepVisit s
  | .barrier rest => Sys2Proof.Machine.execBarrier rest s
  | .barrierTimerExpiry => Sys2Proof.Machine.execBarrierTimerExpiry s
  | .identify rest => Sys2Proof.Machine.execIdentify rest s
  | .readStatus rest => Sys2Proof.Machine.execReadStatus rest s
  | .configurePorts rest => Sys2Proof.Machine.execConfigurePorts rest s
  | .readEvents rest => Sys2Proof.Machine.execReadEvents rest s
  | .setEventEnablesSet rest => Sys2Proof.Machine.execSetEventEnablesSet rest s
  | .setEventEnablesClear rest => Sys2Proof.Machine.execSetEventEnablesClear rest s
  | .readCounters rest => Sys2Proof.Machine.execReadCounters rest s
  | .readCountersClear rest => Sys2Proof.Machine.execReadCountersClear rest s
  | .fullResetRequest rest => Sys2Proof.Machine.execFullResetRequest rest s
  | .unknownRequestKind kind rest => Sys2Proof.Machine.execUnknownRequestKind kind rest s
  | .requestDropped frame => Sys2Proof.Machine.execRequestDropped frame s
  | .readFrame clocked => Sys2Proof.Machine.execReadFrame clocked s
  | .mrstNAssert => Sys2Proof.Machine.execMrstNAssert s
  | .mrstNRelease => Sys2Proof.Machine.execMrstNRelease s
  | .porstNAssert => Sys2Proof.Machine.execPorstNAssert s
  | .porstNRelease => Sys2Proof.Machine.execPorstNRelease s
  | .initSweepEnd => Sys2Proof.Machine.execInitSweepEnd s
  | .laneLockGained port => Sys2Proof.Machine.execLaneLockGained port s
  | .laneLockLost port => Sys2Proof.Machine.execLaneLockLost port s
  | .resolve port index => Sys2Proof.Machine.execResolve port index s
  | .resolveAccess port => Sys2Proof.Machine.execResolveAccess port s
  | .vectorAck port sequence => Sys2Proof.Machine.execVectorAck port sequence s
  | .retractDone port group => Sys2Proof.Machine.execRetractDone port group s
  | .unknownKind port bytes => Sys2Proof.Machine.execUnknownKind port bytes s
  | .ackTimerExpiry port => Sys2Proof.Machine.execAckTimerExpiry port s
  | .answerLeaves port => Sys2Proof.Machine.execAnswerLeaves port s
  | .messageLeaves port => Sys2Proof.Machine.execMessageLeaves port s
  | .wrongLengthMessage port bytes => Sys2Proof.Machine.execWrongLengthMessage port bytes s

end Sys2Proof.Machine
end

