-- ==== Sys2Proof/Machine/LaneReceiver.lean ====
section
/-! DEFINITION. The receiver of a lane (R168): from the characters on the lane to the commands of its port. It stands in front of the
command queue and holds no state of the table's steps (log 18). -/
namespace Sys2Proof.Machine

/-- The receiver: lock, the run of idle characters while unlocked, which of the last 16 characters could not be decoded, and the bytes of
the message being received. -/
structure LaneReceiver where
  locked  : Bool
  idles   : Nat
  recent  : List Bool
  message : Option (List Byte)
deriving DecidableEq, Repr

def LaneReceiver.start : LaneReceiver := { locked := false, idles := 0, recent := [], message := none }

/-- A message ends with the bytes received so far. -/
def endMessage (i : PortId) : Option (List Byte) → List Instr
  | none => []
  | some bytes => [laneInstr i bytes]

/-- A character while the lane is not locked: 32 consecutive idle characters gain lock. -/
def receiveUnlocked (i : PortId) (r : LaneReceiver) (c : LaneChar) : LaneReceiver × List Instr :=
  match c with
  | .idle =>
    if 32 ≤ r.idles + 1 then ({ locked := true, idles := 0, recent := [], message := none }, [.laneLockGained i])
    else ({ r with idles := r.idles + 1 }, [])
  | _ => ({ r with idles := 0 }, [])

/-- How a locked receiver handles a character (the second table of R168). A message is taken for what its decoded bytes spell, also where
an undecodable character stood in its kind byte's place or beside a byte too many (DESIGN CHOICE, log 31). -/
def receiveChar (i : PortId) (r : LaneReceiver) : LaneChar → LaneReceiver × List Instr
  | .idle => ({ r with message := none }, endMessage i r.message)
  | .opening => ({ r with message := some [] }, endMessage i r.message)
  | .closing => ({ r with message := none }, endMessage i r.message)
  | .data b => ({ r with message := r.message.map (· ++ [b]) }, [])
  | .undecodable => (r, [])
  | .signalLost => (r, [])

/-- One character time of a lane's receiver. Lock is lost when 4 of 16 consecutive characters cannot be decoded, or with the signal; a
partial message is then discarded. A full reset does not reach the receiver: a message that straddles one is delivered whole when it ends
(DESIGN CHOICE, log 35). -/
def receive (i : PortId) (r : LaneReceiver) (c : LaneChar) : LaneReceiver × List Instr :=
  if !r.locked then receiveUnlocked i r c
  else
    let recent := ((c == .undecodable) :: r.recent).take 16
    if c = .signalLost ∨ 4 ≤ recent.count true then (LaneReceiver.start, [.laneLockLost i])
    else receiveChar i { r with recent := recent } c

/-- The commands of a run of characters. -/
def receiveAll (i : PortId) : LaneReceiver → List LaneChar → List Instr
  | _, [] => []
  | r, c :: cs =>
    let o := receive i r c
    o.2 ++ receiveAll i o.1 cs

end Sys2Proof.Machine
end

