-- ==== Sys2Proof/Machine/ManagementLink.lean ====
section
/-! DEFINITION. The shifter of the management link (R133): the frame in progress, from the fall of CS_N to its rise, and the command it puts
on the queue. Its events are no rows of the table: they stand in front of the queue, and the frame is held in `State.link` (log 30). -/
namespace Sys2Proof.Machine

/-- What the host does on the link: CS_N falls, a whole byte has been clocked, CS_N rises. -/
inductive LinkEvent where
  | select
  | byte (b : Byte)
  | deselect
deriving DecidableEq, Repr

/-- A reset pin is held low: every frame is discarded unjudged (R133). -/
def State.frameless (s : State) : Bool := s.mrst || s.porst

/-- CS_N falls: a frame begins, cut from its beginning while a reset is held. -/
def selectLink (s : State) : State :=
  if s.link.selected then s else { s with link := { Link.idle with selected := true, cut := s.frameless } }

/-- A whole byte has been clocked. The lead byte of a read frame finds a reply waiting, or none (R133, R135). -/
def Link.clock (b : Byte) (rdy : Bool) (l : Link) : Link :=
  { l with clocked := l.clocked ++ [b], found := if l.clocked.isEmpty then b == Config.readCode && rdy else l.found }

def clockLink (b : Byte) (s : State) : State :=
  if s.link.selected && !s.link.cut then { s with link := s.link.clock b s.rdy } else s

/-- The frame was a read frame whose lead byte found no reply waiting. -/
def Link.readsNothing (l : Link) : Bool := l.clocked.head? == some Config.readCode && !l.found

/-- A frame that was not cut ends: its command comes to the front of the queue, to be judged in this state (R133). A reply formed while a
read frame that found none was in progress stays for the next one, and fill bytes were shifted out (R135). -/
def endFrame (l : Link) (s : State) : State :=
  if l.readsNothing && s.rdy then { s with mgmt := { s.mgmt with sdo := List.replicate l.clocked.length Config.fill } }
  else
    match frameInstr (s.mgmt.iface == .idle) l.clocked with
    | none => s
    | some c => { s with pending := c :: s.pending }

/-- CS_N rises: a frame that was cut, or ends while a reset is held, is discarded; another ends. -/
def deselectLink (s : State) : State :=
  let s' := { s with link := Link.idle }
  if !s.link.selected || s.link.cut || s.frameless then s' else endFrame s.link s'

/-- One event of the management link. -/
def linkEvent : LinkEvent → State → State
  | .select => selectLink
  | .byte b => clockLink b
  | .deselect => deselectLink

end Sys2Proof.Machine
end

