-- ==== Sys2Proof/Safety.lean ====
section
/-! DEFINITION. What a safe state is, block by block: the standing conditions the rules state of the part between two steps. -/
namespace Sys2Proof.Safety
open Sys2Proof.Machine

/-! ### Uplink Watch -/

/-- The live set is the set of uplinks in LIT or SUSPECT (R22). -/
abbrev LiveCurrent (s : State) : Prop := s.live = liveOf s.uplinks

/-- The qualify timer runs exactly in SUSPECT, RESTORING and DAMPED (R9). -/
abbrev QualifyInStep (v : Uplink) : Prop :=
  v.qualify = .stopped ↔ (v.state = .lit ∨ v.state = .dark ∨ v.state = .adminDown)

/-- State and raw darkness stay in step (R17). -/
abbrev DarknessInStep (v : Uplink) : Prop :=
  ((v.state = .suspect ∨ v.state = .dark) → v.d = true) ∧ ((v.state = .lit ∨ v.state = .restoring) → v.d = false)

/-- The onset count is always less than the flap limit, and is 0 whenever that is 0 (R19). -/
abbrev OnsetBounded (v : Uplink) : Prop :=
  v.onset < v.config.flapLimit.toNat ∨ (v.config.flapLimit = 0#4 ∧ v.onset = 0)

/-- The window timer runs exactly while the count is not 0 (R19). -/
abbrev WindowInStep (v : Uplink) : Prop := v.window = .stopped ↔ v.onset = 0

/-- The record of one uplink is in order; d is what its inputs give (R7). -/
abbrev UplinkOk (v : Uplink) : Prop :=
  v.d = v.rawDark ∧ DarknessInStep v ∧ QualifyInStep v ∧ OnsetBounded v ∧ WindowInStep v ∧
    (v.state = .adminDown → v.onset = 0)

abbrev UplinksOk (s : State) : Prop := ∀ u : Fin 32, UplinkOk s.uplinks[u]

/-- The scan receiver in its states: while OFF no frame is in progress, no edge has been driven and the bad count is 0 (R3, R173); the count
is below 8 in TRACKING and 8 in STALE (R6); the period lies within its clamps (R3); SCAN_LOAD and SCAN_CLK are low between two steps. -/
abbrev ScanOk (s : State) : Prop :=
  (s.scan.state = .off → s.scan.inFrame = false ∧ s.scan.driven = [] ∧ s.scan.bad = 0) ∧
    (s.scan.state = .tracking → s.scan.bad < Config.staleAt) ∧ (s.scan.state = .stale → s.scan.bad = Config.staleAt) ∧
    20 ≤ s.scan.period.toNat ∧ s.scan.period.toNat ≤ 2000 ∧ s.scanLoad = false ∧ s.scanClk = false

/-! ### Lookup Ports -/

/-- A set of uplinks is contained in another. -/
abbrev Within (a b : UplinkSet) : Prop := a &&& b = a

/-- Each acknowledged up-set is contained in the live set (R100), and the settled set is the live set intersected with the
acknowledged up-set of every port in UP (R101). -/
abbrev SettledCurrent (s : State) : Prop :=
  Within s.lp0.ackUp s.live ∧ Within s.lp1.ackUp s.live ∧ s.settled = settledOf s.live s.lp0 s.lp1

/-- The ack timer runs exactly while something awaits acknowledgement (R105); the pending flag goes with an outstanding vector (R98);
a port in DOWN or FAULT awaits nothing (R91). -/
abbrev AckInStep (p : Port) : Prop :=
  (p.ackTimer = .stopped ↔ p.awaitsAck = false) ∧ (p.pendingFlag = true → p.outstanding.isSome = true) ∧
    (p.serves = false → p.awaitsAck = false)

/-- The answer order list: at most 64 entries, of which `unanswered`, at most 32, take an access, and these only in UP; an entry that
takes no access has its Answer (R89, R94). -/
abbrev AnswersOk (p : Port) : Prop :=
  p.answers.length ≤ Config.maxAnswers ∧ p.unanswered = p.answers.countP (·.needsAccess) ∧
    p.unanswered ≤ Config.maxUnanswered ∧ (p.state ≠ .up → p.unanswered = 0) ∧
    (∀ e ∈ p.answers, e.needsAccess = false → e.answer.isSome = true) ∧ (p.serves = false → p.answers = [])

/-- A vector outstanding on a serving port with the pending flag clear names exactly the uplinks that are not live (R98, R99). -/
abbrev VectorCurrent (s : State) (p : Port) : Prop :=
  p.serves = true → p.pendingFlag = false → ∀ v ∈ p.outstanding, v.notLive = ~~~s.live

/-- The Answers in a transmit order, in order. -/
def answersIn (l : List LaneMessage) : List Answer :=
  l.filterMap fun m =>
    match m with
    | .answer a => some a
    | .retract _ _ => none
    | .downVector _ => none

/-- Answers join the transmit order, and leave it, in the order of their Resolves (R93): the joined entries are the first of the
answer order list, their Answers are those in the transmit order, and the first entry not joined has no Answer yet. A port in
DOWN or FAULT has nothing to send (R91). -/
abbrev TransmitOk (p : Port) : Prop :=
  p.answers.Pairwise (fun a b => b.joined = true → a.joined = true) ∧
    (∀ e ∈ p.answers, e.joined = true → e.answer.isSome = true) ∧
    answersIn p.transmit = (p.answers.filter (·.joined)).filterMap (·.answer) ∧
    (p.answers.find? fun e => !e.joined).bind (·.answer) = none ∧ (p.serves = false → p.transmit = [])

/-- A port that is not UP has every slot EMPTY and an empty retract list (R120). -/
abbrev QuietUnlessUp (p : Port) : Prop := p.state ≠ .up → p.slots = [] ∧ p.retracts = []

/-- A condition on each of the two ports. -/
abbrev OnPorts (P : Port → Prop) (s : State) : Prop := P s.lp0 ∧ P s.lp1

/-! ### Copy Directory -/

/-- The retract list: the SENT entries at its head, at most 64 of them; a WAITING entry only while 64 are SENT, and at most one for any
group (R117, R121). -/
abbrev RetractsOk (p : Port) : Prop :=
  p.retracts.Pairwise (fun a b => b.mark = .sent → a.mark = .sent) ∧ sentCount p.retracts ≤ Config.maxSent ∧
    (p.retracts.any (·.mark == .waiting) = true → sentCount p.retracts = Config.maxSent) ∧
    ((p.retracts.filter (·.mark == .waiting)).map (·.group)).Nodup

/-- A directory slot in COPY(g, n) names an ACTIVE group at generation n, in the slot of its number (R113, R114). -/
abbrev DirectoryOk (s : State) (p : Port) : Prop :=
  SparseWf none p.slots ∧
    ∀ e ∈ p.slots, ∀ c ∈ e.2, e.1 = c.group % Config.slots ∧ (s.group c.group).state = .active ∧ (s.group c.group).gen = c.gen

/-! ### Path Table -/

/-- Every bucket names a member, or every bucket is NONE (R28). -/
abbrev MapOk (r : Group) : Prop :=
  r.map = noneMap ∨ (r.map.length = Config.buckets ∧ ∀ b ∈ r.map, ∃ p, p < r.members.length ∧ b = some p)

/-- The record of a group in its state (R25, R28, R29, R140). -/
abbrev GroupOk (r : Group) : Prop :=
  (r.state = .free → r.members = [] ∧ r.mode = .revert ∧ r.floor = 1 ∧ r.map = noneMap) ∧
    (r.state ≠ .free → validMembers r.members = true ∧ 1 ≤ r.floor ∧ r.floor ≤ Config.maxMembers ∧ r.gen ≠ 0#32 ∧ MapOk r)

/-- The group records: canonical, numbered 0 to 4095, each in order. -/
abbrev GroupsOk (s : State) : Prop :=
  SparseWf Group.reset s.table.groups ∧ ∀ e ∈ s.table.groups, e.1 < Config.groups ∧ GroupOk e.2

/-- A group request in progress has passed its checks (R139, R140). -/
abbrev RequestOk (s : State) : Prop :=
  match s.mgmt.iface with
  | .serving (.group (.install f)) => f.group < Config.groups ∧ validMembers f.members = true
  | .serving (.group (.modify f)) => f.group < Config.groups ∧ validMembers f.members = true
  | .serving (.group (.retire g _)) => g < Config.groups
  | .serving (.group (.read g)) => g < Config.groups
  | _ => True

/-- A RETIRING group is named by a retract entry (R36). -/
abbrev RetiringNamed (s : State) : Prop := ∀ e ∈ s.table.groups, e.2.state = .retiring → s.named e.1 = true

/-- A group is on the chain of u exactly when it is ACTIVE and relates to u; no chain holds a group twice (R38). -/
abbrev ChainsOk (s : State) : Prop :=
  ∀ u : Fin 32, s.table.chains[u].Nodup ∧
    (∀ g ∈ s.table.chains[u], (s.group g).state = .active ∧ (related (s.group g).members).getLsbD u.val = true) ∧
    (∀ e ∈ s.table.groups, e.2.state = .active → (related e.2.members).getLsbD u.val = true → e.1 ∈ s.table.chains[u])

/-- Every link is in the pool or on a chain (R41). -/
abbrev LinksOk (s : State) : Prop := s.table.freeLinks + linksIn s.table.chains = Config.poolLinks

/-! ### Walk Engine -/

/-- The range of a sweep job lies within the table (R70). -/
def rangeOk : WaitingJob → Bool
  | .uplink _ => true
  | .sweep first count => decide (1 ≤ count ∧ first + count ≤ Config.groups)

/-- At most one waiting uplink job for each uplink, at most 8 waiting sweep jobs (R68), each of a range within the table; the IDLE
engine has no job waiting (R71). -/
abbrev QueueOk (s : State) : Prop :=
  (s.walk.queue.filter fun j => !j.isSweep).Nodup ∧ sweepsWaiting s.walk.queue ≤ Config.maxSweeps ∧
    s.walk.queue.all rangeOk = true ∧ (s.walk.job = none → s.walk.queue = [])

/-- The cursor of an uplink job names a link of its chain (R40, R67). -/
abbrev CursorOk (s : State) : Prop :=
  match s.walk.job with
  | some (.uplink u (some g)) => g ∈ s.table.chains[u]
  | some (.sweep first count next) => first ≤ next ∧ next < first + count ∧ first + count ≤ Config.groups
  | _ => True

/-! ### Management Interface and pins -/

/-- The barrier timer runs exactly while a Barrier waits, and the test of a waiting Barrier does not hold (R152). -/
abbrev BarrierOk (s : State) : Prop :=
  match s.mgmt.iface with
  | .serving (.barrier b) => s.mgmt.barrierTimer ≠ .stopped ∧ barrierHolds b s = false
  | _ => s.mgmt.barrierTimer = .stopped

/-- While MRST_N is held low the interface is IDLE and no enable is set (R143). -/
abbrev MgmtHeld (s : State) : Prop :=
  s.mrst = true → s.mgmt.iface = .idle ∧ s.mgmt.resetOwed = false ∧ s.mgmt.dropped = false ∧ s.mgmt.enables = 0#8 ∧
    s.mgmt.barrierTimer = .stopped

/-- A reset owed has its reply waiting (R132, R154). -/
abbrev OwedOk (s : State) : Prop := s.mgmt.resetOwed = true → s.rdy = true

/-- While PORST_N is held low every block is at its full-reset values (R46). -/
abbrev HeldInReset (s : State) : Prop := s.porst = true → s = s.fullReset

/-- During INIT the table is empty and the engine IDLE (R47, R72). -/
abbrev InitEmpty (s : State) : Prop :=
  s.table.ready = false → s.table = Table.reset ∧ s.walk = Walk.reset

end Sys2Proof.Safety
end

