-- ==== Sys2Proof/WellFormed.lean ====
section
/-! DEFINITION. Well-formed commands: those whose bytes are of their own row. The meanings are total; a command that is not
well-formed names an event that did not occur, and changes nothing (log 4). -/
namespace Sys2Proof

/-- The bytes a command carries are those of its row. -/
def Instr.wellFormed : Instr → Bool
  | .setAdminClear rest => rowOf decodeSetAdmin (fun r => !r.1) rest
  | .setAdminSet rest => rowOf decodeSetAdmin (fun r => r.1) rest
  | .configureScanEnable rest => rowOf decodeConfigureScan (fun r => r.1) rest
  | .configureScanDisable rest => rowOf decodeConfigureScan (fun r => !r.1) rest
  | .setEventEnablesSet rest => rowOf decodeSetEnables (fun r => r.1) rest
  | .setEventEnablesClear rest => rowOf decodeSetEnables (fun r => !r.1) rest
  | .readCounters rest => rowOf decodeReadCounters (fun c => !c) rest
  | .readCountersClear rest => rowOf decodeReadCounters (fun c => c) rest
  | .unknownRequestKind k _ => isUnknownRequestKind k
  | .requestDropped frame => isRequestFrame frame
  | .unknownKind _ bytes => decodeLane bytes == .unknown
  | .wrongLengthMessage _ bytes => decodeLane bytes == .wrongLength
  | .filteredLineLevelChange _ _ => true
  | .scanFrameStart => true
  | .scanFrameJudged _ => true
  | .qualifyTimerExpiry _ => true
  | .restoreTimerExpiry _ => true
  | .holdTimerExpiry _ => true
  | .windowTimerExpiry _ => true
  | .configureUplink _ => true
  | .readUplink _ => true
  | .installGroup _ => true
  | .modifyGroup _ => true
  | .retireGroup _ => true
  | .readGroup _ => true
  | .rangeSurvey _ => true
  | .rangeSurveyAccess => true
  | .rebalanceRange _ => true
  | .uplinkJobVisit => true
  | .closingAccess => true
  | .sweepVisit => true
  | .barrier _ => true
  | .barrierTimerExpiry => true
  | .identify _ => true
  | .readStatus _ => true
  | .configurePorts _ => true
  | .readEvents _ => true
  | .fullResetRequest _ => true
  | .readFrame _ => true
  | .mrstNAssert => true
  | .mrstNRelease => true
  | .porstNAssert => true
  | .porstNRelease => true
  | .initSweepEnd => true
  | .laneLockGained _ => true
  | .laneLockLost _ => true
  | .resolve _ _ => true
  | .resolveAccess _ => true
  | .vectorAck _ _ => true
  | .retractDone _ _ => true
  | .ackTimerExpiry _ => true
  | .answerLeaves _ => true
  | .messageLeaves _ => true

end Sys2Proof
end

