-- ==== Sys2Proof/Certificates/Slice0/Obligations.lean ====
section
/-! DEFINITION. The statements for the provers, with the words they are written in. A statement gives a command's next state whole,
in record updates and in the shared operations that have a statement of their own here (`watchStep`, `resettle`, `relink`,
`reportChange`, `portReset`, `place`, `takeNextJob`); so each says its frame as well. -/
namespace Sys2Proof.Claims
open Sys2Proof.Machine Sys2Proof.Safety

/-! ### Words for states -/

/-- PORST_N is high. -/
abbrev Runs (s : State) : Prop := s.porst = false

/-- The Management Interface takes the next request frame: both reset pins are high and it is IDLE (R134). -/
abbrev Listens (s : State) : Prop := s.porst = false ∧ s.mrst = false ∧ s.mgmt.iface = .idle

/-- The state after a frame of `n` bytes after its lead byte in which no reply was shifted out: SDO showed fill in every byte (R170); the
record of it is the model's own (log 12). -/
def fed (n : Nat) (s : State) : State := { s with mgmt := { s.mgmt with sdo := List.replicate (n + 1) 0x00#8 } }

/-- The state with this reply waiting (R135). -/
def replied (status : ReplyStatus) (payload : List Byte) (s : State) : State :=
  { s with mgmt := { s.mgmt with iface := .replyReady { status := status, payload := payload } } }

/-- The state with this request in progress. -/
def serving (r : Request) (s : State) : State := { s with mgmt := { s.mgmt with iface := .serving r } }

/-- The state with these event flags set as well. -/
def flagged (f : Byte) (s : State) : State := { s with mgmt := { s.mgmt with flags := s.mgmt.flags ||| f } }

/-- The state in which this requester was granted last. -/
def granted (q : Requester) (s : State) : State := { s with table := { s.table with lastGranted := q } }

/-- An invariant that every step keeps. -/
def KeptByEveryStep (Inv : State → Prop) : Prop := ∀ s t : State, Inv s → step s = .next t → Inv t

/-! ### The invariants, each with what its own keeping rests on -/

abbrev SettledInv (s : State) : Prop :=
  HeldInReset s ∧ LiveCurrent s ∧ SettledCurrent s ∧ VectorCurrent s s.lp0 ∧ VectorCurrent s s.lp1

abbrev PortsInv (s : State) : Prop :=
  HeldInReset s ∧ OnPorts AnswersOk s ∧ OnPorts AckInStep s ∧ OnPorts QuietUnlessUp s ∧ OnPorts TransmitOk s

abbrev DirectoryInv (s : State) : Prop :=
  HeldInReset s ∧ InitEmpty s ∧ SparseWf Group.reset s.table.groups ∧ OnPorts AnswersOk s ∧ OnPorts QuietUnlessUp s ∧
    DirectoryOk s s.lp0 ∧ DirectoryOk s s.lp1

abbrev GroupsInv (s : State) : Prop := GroupsOk s ∧ RequestOk s

abbrev RetractsInv (s : State) : Prop := OnPorts RetractsOk s ∧ SparseWf Group.reset s.table.groups ∧ RetiringNamed s

abbrev WalkInv (s : State) : Prop :=
  InitEmpty s ∧ SparseWf Group.reset s.table.groups ∧ ChainsOk s ∧ QueueOk s ∧ CursorOk s

abbrev LinksInv (s : State) : Prop := GroupsInv s ∧ ChainsOk s ∧ LinksOk s

abbrev MgmtInv (s : State) : Prop := MgmtHeld s ∧ OwedOk s ∧ BarrierOk s

/-! ### Full reset -/

/-- A port right after a full reset: DOWN, or in SYNC with vector 0, which names every uplink, when its lane held its lock (R112). -/
def bootPort (locked : Bool) : Port :=
  if locked then
    { Port.reset with
      locked := true, state := .sync, nextSeq := 1#8, ackTimer := .running 2000
      outstanding := some { sequence := 0#8, notLive := 0xFFFFFFFF#32 }
      transmit := [.downVector { sequence := 0#8, notLive := 0xFFFFFFFF#32 }] }
  else Port.reset

/-- A lookup port and its directory after a full reset, no lane locked (R89, R113, R117). -/
def portFresh : Port :=
  { state := .down, locked := false, answers := [], unanswered := 0, transmit := [], nextSeq := 0#8, outstanding := none
    pendingFlag := false, ackUp := 0#32, ackTimer := .stopped, slots := [], retracts := [], sent := []
    counters := { answersOk := 0#32, answersNoRoute := 0#32, answersBusy := 0#32, retractsSent := 0#32, faults := 0#32 } }

/-- The Management Interface after a full reset (R132). -/
def mgmtFresh : Mgmt :=
  { iface := .idle, resetOwed := false, dropped := false, barrierTimer := .stopped, flags := 0#8, enables := 0#8
    walkVisits := 0#32, droppedRequests := 0#32, sdo := [] }

/-- No frame is in progress on the management link. -/
def noFrame : Link := { selected := false, cut := false, found := false, clocked := [] }

/-- The link when a reset comes: a frame in progress is cut (R133). -/
def cutFrame (l : Link) : Link := { selected := l.selected, cut := l.selected, found := false, clocked := [] }

/-- These bytes have been clocked on the link. -/
def clocking (bytes : List Byte) (s : State) : State := bytes.foldl (fun t b => linkEvent (.byte b) t) s

/-- The part when a full reset has ended. -/
def afterFullReset (s : State) : State :=
  { State.reset with
    link := cutFrame s.link, lp0 := bootPort s.lp0.locked, lp1 := bootPort s.lp1.locked, mrst := s.mrst, pending := s.pending
    mgmt := { Mgmt.reset with flags := if s.lp0.locked || s.lp1.locked then 0x08#8 else 0x00#8 } }

/-! ### Uplinks -/

/-- The uplink records with uplink `u`'s replaced. -/
def withUplink (s : State) (u : Fin 32) (v : Uplink) : Vector Uplink 32 := s.uplinks.set u v

/-- A port takes a report of a live-set change: `left` are the uplinks that left (R98, R100). -/
def portReport (left live : UplinkSet) (timeout : Byte) (p : Port) : Port :=
  if p.state = .down ∨ p.state = .fault then { p with ackUp := p.ackUp &&& ~~~left }
  else
    match p.outstanding with
    | some _ => { p with ackUp := p.ackUp &&& ~~~left, pendingFlag := true }
    | none =>
      { p with
        ackUp := p.ackUp &&& ~~~left
        nextSeq := if p.nextSeq = 255#8 then 1#8 else p.nextSeq + 1#8
        outstanding := some { sequence := p.nextSeq, notLive := ~~~live }
        transmit := p.transmit ++ [.downVector { sequence := p.nextSeq, notLive := ~~~live }]
        ackTimer := if p.ackTimer = .stopped then .running (timeout.toNat * 100) else p.ackTimer }

/-- The code of uplink `u` in a scan frame: sampled bits 5 + 2u and 6 + 2u, high bit first, sampled bit 1 standing in bit 67 (R173). -/
def codeAt (bits : BitVec 68) (u : Fin 32) : ScanCode :=
  match bits.getLsbD (68 - (5 + 2 * u.val)), bits.getLsbD (68 - (6 + 2 * u.val)) with
  | false, false => .ok
  | false, true => .localFault
  | true, false => .remoteFault
  | true, true => .degraded

/-- The first four bits sampled read 0, 1, 1, 0. -/
def goodMarker (bits : BitVec 68) : Bool :=
  !bits.getLsbD 67 && bits.getLsbD 66 && bits.getLsbD 65 && !bits.getLsbD 64

/-- The configuration as stored (R20). -/
def storedConfig (c : UplinkConfig) : UplinkConfig :=
  { c with flapWindow := if c.flapWindow.toNat = 0 then 1#8 else c.flapWindow
           holdTime := if c.holdTime.toNat = 0 then 1#16 else if 3600 < c.holdTime.toNat then 3600#16 else c.holdTime }

/-! ### Groups -/

/-- A member list is valid (R140). -/
def listValid (ms : List Member) : Prop :=
  1 ≤ ms.length ∧ ms.length ≤ 8 ∧ (ms.map (·.uplink)).Nodup ∧
    ∀ m ∈ ms, m.terms.length ≤ 2 ∧ ∀ t ∈ m.terms, t.watched ≠ m.uplink

/-- What a frame can carry of a member list: a count in one byte, up to 3 terms a member (R171). -/
abbrev Carried (ms : List Member) : Prop := ms.length < 256 ∧ ∀ m ∈ ms, m.terms.length < 4

/-- The floor as stored (R27). -/
def storedFloor (carried : Byte) (ms : List Member) : Nat :=
  let primaries := (ms.filter fun m => m.role = .primary).length
  if primaries = 0 then 1 else if carried.toNat = 0 then 1 else if primaries < carried.toNat then primaries else carried.toNat

/-- The five bytes of a group write's reply: state and generation (R148). -/
def stateAndGen (st : GroupState) (n : Generation) : List Byte :=
  (match st with
    | .free => 0x00#8
    | .active => 0x01#8
    | .retiring => 0x02#8) :: bytes32 n

/-- The word sum a group adds to a digest (R151). -/
def digestWords (g : Nat) (r : Group) : Nat :=
  (g * 65536 + r.members.length * 256 + modeCode r.mode * 16 + r.floor) +
    (r.members.zipIdx.map fun e => e.2 * 2 ^ 24 + e.1.uplink.val * 65536 + roleCode e.1.role * 256 + e.1.weight.val).sum +
    (r.members.zipIdx.flatMap fun e =>
      e.1.terms.map fun t => e.2 * 2 ^ 24 + 2 ^ 23 + t.watched.val * 65536 + wantCode t.want).sum

/-- A group that has become FREE again (R36). -/
def freedAt (n : Generation) : Group :=
  { state := .free, gen := n, mode := .revert, floor := 1, members := [], map := List.replicate 64 none }

/-- A member may carry traffic under S (R51, R52). -/
def canCarry (S : UplinkSet) (m : Member) : Bool :=
  decide (1 ≤ m.weight.val) && S.getLsbD m.uplink.val &&
    m.terms.all fun c => S.getLsbD c.watched.val == decide (c.want = .inSet)

/-- A member position is in the active set (R53). -/
def isActive (S : UplinkSet) (floor : Nat) (ms : List Member) (p : Nat) : Prop := (activeSet S floor ms)[p]? = some true

/-- Some member is in the active set. -/
def someActive (S : UplinkSet) (floor : Nat) (ms : List Member) : Prop := ∃ p, isActive S floor ms p

/-- The quota of a member position (R55). -/
def quotaOf (S : UplinkSet) (floor : Nat) (ms : List Member) (p : Nat) : Nat :=
  (quotas (activeWeights S floor ms)).getD p 0

/-! ### Accesses -/

/-- The commands that are one access of this requester (R42). -/
def accessesOf : Requester → List Instr
  | .lp0 => [.resolveAccess .lp0]
  | .lp1 => [.resolveAccess .lp1]
  | .walk => [.uplinkJobVisit, .closingAccess, .sweepVisit]
  | .mgmt => [.installGroup .granted, .modifyGroup .granted, .retireGroup .granted, .readGroup .granted, .rangeSurveyAccess]

/-! ### The walk -/

/-- An uplink job for u waits or is in progress. -/
def jobFor (s : State) (u : Fin 32) : Prop :=
  .uplink u ∈ s.walk.queue ∨ ∃ c, s.walk.job = some (.uplink u c)

/-- A sweep job waits or is in progress. -/
def sweepBusy (s : State) : Prop :=
  (∃ f c, .sweep f c ∈ s.walk.queue) ∨ ∃ f c n, s.walk.job = some (.sweep f c n)

/-- A Barrier's test (R152). -/
def testHolds (b : BarrierTest) (s : State) : Prop :=
  (∀ u : Fin 32, b.uplinks.getLsbD u.val = true → ¬ jobFor s u) ∧ (b.sweeps = true → ¬ sweepBusy s) ∧
    (b.retracts = true → s.lp0.retracts = [] ∧ s.lp1.retracts = [])

/-! ### Codes and translation -/

/-- The codes of the reply statuses (R170). -/
def statusByte : ReplyStatus → Byte
  | .ok => 0x00#8
  | .badRequest => 0x01#8
  | .range => 0x02#8
  | .exists_ => 0x03#8
  | .absent => 0x04#8
  | .pending => 0x05#8
  | .stale => 0x06#8
  | .busy => 0x07#8
  | .notReady => 0x08#8
  | .timeout => 0x09#8

/-- The codes of the uplink states (R171). -/
def uplinkByte : UplinkState → Byte
  | .adminDown => 0#8
  | .lit => 1#8
  | .suspect => 2#8
  | .dark => 3#8
  | .restoring => 4#8
  | .damped => 5#8

/-- The codes of the port states (R171). -/
def portByte : PortState → Byte
  | .down => 0#8
  | .sync => 1#8
  | .up => 2#8
  | .fault => 3#8

/-- The codes of the scan states (R171). -/
def scanByte : ScanState → Byte
  | .off => 0#8
  | .tracking => 1#8
  | .stale => 2#8

/-- Translation of a map (R61): a bucket that names a member position gives the uplink of the member there, a bucket that is NONE gives
255. -/
def TranslatesByMember : Prop :=
  ∀ (ms : List Member) (map : BucketMap), (translate ms map).length = map.length ∧
    ∀ b : Nat, (map[b]? = some none → (translate ms map)[b]? = some 255#8) ∧
      ∀ p m, map[b]? = some (some p) → ms[p]? = some m → (translate ms map)[b]? = some (BitVec.ofNat 8 m.uplink.val)

/-! ### The scan pins -/

/-- The pulse on SCAN_LOAD that begins a scan frame (R173). -/
def pulseOnly : List ScanEdge := [.loadRise, .loadFall]

/-- The edges of a whole scan frame: the pulse, then 68 rising edges on SCAN_CLK (R173). -/
def pulseAnd68 : List ScanEdge := pulseOnly ++ (List.range 68).flatMap fun _ => [.clkRise, .clkFall]

/-! ### Frames -/

/-- The payload of a member list ends with its last member (R171). -/
def membersFit : Nat → List Byte → Bool
  | 0, bs => bs.isEmpty
  | n + 1, _ :: a :: bs => decide (a.toNat / 32 % 4 ≤ bs.length) && membersFit n (bs.drop (a.toNat / 32 % 4))
  | _ + 1, _ => false

/-- A byte of two defined values. -/
def isChoice (b : Option Byte) : Bool := b == some 0x00#8 || b == some 0x01#8

/-- A payload of a request kind is well formed: its length, its value bytes, its reserved bits (R138, R171). -/
def payloadFits (k : Byte) (p : List Byte) : Bool :=
  match k.toNat with
  | 0x01 => p.length == 0
  | 0x02 => p.length == 0
  | 0x10 => p.length == 8 && (p.getD 1 0#8).getLsbD 2 == false && (p.getD 1 0#8).getLsbD 3 == false
  | 0x11 => p.length == 1
  | 0x12 => p.length == 5 && isChoice p[0]?
  | 0x13 => p.length == 3 && isChoice p[0]?
  | 0x14 => p.length == 1
  | 0x20 => decide (5 ≤ p.length) && isChoice p[2]? && membersFit (p.getD 4 0#8).toNat (p.drop 5)
  | 0x21 => decide (9 ≤ p.length) && isChoice p[6]? && membersFit (p.getD 8 0#8).toNat (p.drop 9)
  | 0x22 => p.length == 6
  | 0x23 => p.length == 2
  | 0x24 => p.length == 4
  | 0x25 => p.length == 4
  | 0x30 => p.length == 7 && decide ((p.getD 4 0#8).toNat < 4)
  | 0x40 => p.length == 0
  | 0x41 => p.length == 2 && isChoice p[0]?
  | 0x42 => p.length == 1 && isChoice p[0]?
  | 0x5A => p.length == 0
  | _ => false

/-- A request frame with these bytes after its kind is well formed (R138). -/
def frameFits (k : Byte) (rest : List Byte) : Bool :=
  decide (2 ≤ rest.length) && decide ((rest.getD 0 0#8).toNat * 256 + (rest.getD 1 0#8).toNat = (rest.drop 2).length) &&
    payloadFits k (rest.drop 2)

/-- The kind byte of a command that is a request frame taken in IDLE, and the bytes after it. -/
def requestBytes : Instr → Option (Byte × List Byte)
  | .identify rest => some (0x01#8, rest)
  | .readStatus rest => some (0x02#8, rest)
  | .configureUplink rest => some (0x10#8, rest)
  | .readUplink rest => some (0x11#8, rest)
  | .setAdminClear rest => some (0x12#8, rest)
  | .setAdminSet rest => some (0x12#8, rest)
  | .configureScanEnable rest => some (0x13#8, rest)
  | .configureScanDisable rest => some (0x13#8, rest)
  | .configurePorts rest => some (0x14#8, rest)
  | .installGroup (.frame rest) => some (0x20#8, rest)
  | .modifyGroup (.frame rest) => some (0x21#8, rest)
  | .retireGroup (.frame rest) => some (0x22#8, rest)
  | .readGroup (.frame rest) => some (0x23#8, rest)
  | .rebalanceRange rest => some (0x24#8, rest)
  | .rangeSurvey rest => some (0x25#8, rest)
  | .barrier rest => some (0x30#8, rest)
  | .readEvents rest => some (0x40#8, rest)
  | .setEventEnablesSet rest => some (0x41#8, rest)
  | .setEventEnablesClear rest => some (0x41#8, rest)
  | .readCounters rest => some (0x42#8, rest)
  | .readCountersClear rest => some (0x42#8, rest)
  | .fullResetRequest rest => some (0x5A#8, rest)
  | .unknownRequestKind k rest => some (k, rest)
  | _ => none

/-! ### Ports -/

/-- A port right after a port reset (R91, R128): its next sequence, counters and lock are kept, but for the faults counter on entry
to FAULT; `sent` is the model's record. -/
def resetPort (new : PortState) (p : Port) : Port :=
  { Port.reset with
    state := new, locked := p.locked, nextSeq := p.nextSeq, sent := p.sent
    counters := if new = .fault then { p.counters with faults := satInc p.counters.faults } else p.counters }

/-- The other port. -/
def other : PortId → PortId
  | .lp0 => .lp1
  | .lp1 => .lp0

/-- An entry of the retract lists of a port names g. -/
def names (p : Port) (g : Nat) : Prop := ∃ e ∈ p.retracts, e.group = g

/-- The commands of one port: the messages and lane events of its own lane. -/
def portOf : Instr → Option PortId
  | .laneLockGained p => some p
  | .laneLockLost p => some p
  | .resolve p _ => some p
  | .resolveAccess p => some p
  | .vectorAck p _ => some p
  | .retractDone p _ => some p
  | .unknownKind p _ => some p
  | .ackTimerExpiry p => some p
  | .answerLeaves p => some p
  | .messageLeaves p => some p
  | .wrongLengthMessage p _ => some p
  | _ => none

end Sys2Proof.Claims

open Sys2Proof Sys2Proof.Machine Sys2Proof.Safety Sys2Proof.Claims

/-! ### The part as a whole -/

/-- A step runs the command at the front of the queue with the queue's rest; on an empty queue the part idles (the model's choice,
log 2). -/
def Obligations.StepRunsTheFrontCommand : Prop :=
  ∀ (s : State) (c : Instr) (rest : List Instr),
    (s.pending = c :: rest → step s = exec c { s with pending := rest }) ∧ (s.pending = [] → step s = .next s)

/-- Every command is answered by a next state in every state (the model's reading of a part that stops on nothing, log 17); the
queue and the two reset pins change only by the step itself and by the pins' own commands, and the frame in progress on the management
link only by a reset. -/
def Obligations.EveryCommandIsAnswered : Prop :=
  ∀ (c : Instr) (s : State), ∃ t, exec c s = .next t ∧ t.pending = s.pending ∧
    (c ≠ .mrstNAssert → c ≠ .mrstNRelease → t.mrst = s.mrst) ∧ (c ≠ .porstNAssert → c ≠ .porstNRelease → t.porst = s.porst) ∧
    (c ≠ .mrstNAssert → c ≠ .porstNAssert → (∀ n, c = .readFrame n → s.mgmt.resetOwed = false) → t.link = s.link)

/-- After a full reset, before any command, every invariant below holds. The pins, locks and link of State.reset are the model's choice
(log 7), its empty table the model's inference (log 8). -/
def Obligations.ResetMeetsEveryInvariant : Prop :=
  UplinksOk State.reset ∧ ScanOk State.reset ∧ SettledInv State.reset ∧ PortsInv State.reset ∧ RetractsInv State.reset ∧
    DirectoryInv State.reset ∧ GroupsInv State.reset ∧ WalkInv State.reset ∧ LinksInv State.reset ∧ MgmtInv State.reset

/-! ### Invariants every step keeps -/

/-- R17, R9, R19: state and raw darkness stay in step, d is what the inputs give, the qualify timer runs exactly in SUSPECT,
RESTORING and DAMPED, the onset count stays below the flap limit and its window runs exactly while it is not 0. R3, R6, R173: the bad
count of the scan goes with its state, its period lies within its clamps, and its pins are low between two steps; the record of their
edges is the model's own (log 34). -/
def Obligations.UplinksStayInStep : Prop := KeptByEveryStep UplinksOk ∧ KeptByEveryStep ScanOk

/-- R101, R100, R22: the settled set is the live set intersected with the acknowledged up-set of every port in UP, each
acknowledged up-set lies in the live set, and the live set is the uplinks in LIT or SUSPECT; while PORST_N is low every block is at
its full-reset values (R46). -/
def Obligations.SettledSetStaysCurrent : Prop := KeptByEveryStep SettledInv

/-- R89, R94, R105, R120, R93: the ports' lists and counts, the ack timer, empty directories unless UP, and Answers in the
transmit order in the order of their Resolves. -/
def Obligations.PortsStayInOrder : Prop := KeptByEveryStep PortsInv

/-- R117, R121: SENT entries head each retract list, at most 64; a WAITING entry only while 64 are SENT, at most one a group. R36: a
group is RETIRING only while at least one port's retract list holds an entry naming it. -/
def Obligations.RetractEntriesStayInOrder : Prop := KeptByEveryStep RetractsInv

/-- R114: a directory slot in COPY(g, n) on either port names a group g that is ACTIVE with generation n; a port in DOWN, SYNC or FAULT
has every slot EMPTY. The table's canonical form is log 16; that the whole table is empty during INIT, as its keeping needs, is the model's
inference (log 8). -/
def Obligations.CopiesNameCurrentGenerations : Prop := KeptByEveryStep DirectoryInv

/-- R28, R29, R25, R140: every group record is in order. -/
def Obligations.GroupRecordsStayInOrder : Prop := KeptByEveryStep GroupsInv

/-- R38, R40, R68, R71: the chains hold exactly the ACTIVE related groups, once each; the walk queue keeps its limits; the cursor
names a link of its chain; during INIT the table is empty and the engine IDLE. That the whole table is empty during INIT, its records and
its last-granted requester with the chains, is the model's inference (log 8): R47 says it of the chains alone. -/
def Obligations.ChainsAndWalkStayInOrder : Prop := KeptByEveryStep WalkInv

/-- R41: every link is in the pool or on a chain, so the pool never runs out. -/
def Obligations.LinkPoolStaysWhole : Prop := KeptByEveryStep LinksInv

/-- R143, R154, R152: what MRST_N holds; a reset owed has its reply waiting; the barrier timer runs exactly while a Barrier waits,
and a waiting Barrier's test does not hold. -/
def Obligations.ManagementStaysInOrder : Prop := KeptByEveryStep MgmtInv

/-! ### Reset pins and the init sweep -/

/-- PORST_N low takes every block to its full-reset values; PORST_N high ends the reset, and a lane whose lock held enters SYNC
with vector 0, which names every uplink down. The init sweep then frees
every group, empties every chain, returns every link and makes the device READY with its flag; the other blocks go on as they were.
That the end of a sweep in READY, an event the state rules out, changes nothing is the model's choice (log 3); so is what a full reset
keeps of the pins, the lanes' locks and the queue and empties of the model's own records (log 28, log 34), and so is that State.reset
has no frame in progress and no lane locked (log 7). That the table is empty from PORST_N low on, and not only at the sweep's end, is its
inference (log 8). -/
def Obligations.FullResetAndInitSweep : Prop :=
  (∀ s : State, Runs s →
    (s.table.ready = false → exec .initSweepEnd s = .next
      (flagged 0x01#8 { s with table := { groups := [], chains := Vector.replicate 32 [], freeLinks := 98304,
                                          lastGranted := .mgmt, ready := true } })) ∧
    (s.table.ready = true → exec .initSweepEnd s = .next s)) ∧
  ∀ s : State,
    (s.porst = false → exec .porstNAssert s = .next
      { State.reset with
        lp0 := { Port.reset with locked := s.lp0.locked }, lp1 := { Port.reset with locked := s.lp1.locked }
        link := cutFrame s.link, porst := true, mrst := s.mrst, pending := s.pending }) ∧
    (s.porst = true → HeldInReset s → exec .porstNRelease s = .next (afterFullReset s)) ∧
    (∀ u : Fin 32, State.reset.uplinks[u] =
      { state := .adminDown, qualify := .stopped, window := .stopped, onset := 0, d := false, darkEntries := 0#16,
        dampEntries := 0#16, line := false, code := .ok
        config := { lineEnable := true, degradedIsDark := false, darkQualify := 5#8, restoreTime := 2000#16, flapLimit := 5#4,
                    flapWindow := 10#8, holdTime := 60#16 } }) ∧
    (∀ g, State.reset.group g = freedAt 0#32) ∧ State.reset.table.chains = Vector.replicate 32 [] ∧
    State.reset.table.freeLinks = 98304 ∧ State.reset.table.lastGranted = .mgmt ∧ State.reset.table.ready = false ∧
    State.reset.scan = { state := .off, period := 100#16, bad := 0, inFrame := false, driven := [] } ∧
    State.reset.scanLoad = false ∧ State.reset.scanClk = false ∧ State.reset.live = 0#32 ∧
    State.reset.settled = 0#32 ∧ State.reset.ackTimeout = 20#8 ∧ State.reset.walk = { queue := [], job := none } ∧
    State.reset.link = noFrame ∧ State.reset.lp0 = portFresh ∧ State.reset.lp1 = portFresh ∧ Port.reset = portFresh ∧
    (∀ k, sparseGet none portFresh.slots k = none) ∧ State.reset.mgmt = mgmtFresh ∧
    State.reset.rdy = false ∧ State.reset.attn = false ∧ State.reset.mgmt.flags = 0#8 ∧ State.reset.mgmt.enables = 0#8

/-- MRST_N low holds the Management Interface in its reset, cuts a frame in progress, and leaves everything else, the event flags and
counters too; frames are discarded unjudged; MRST_N high lets it take frames. -/
def Obligations.ManagementResetHoldsTheInterface : Prop :=
  ∀ s : State,
    (exec .mrstNAssert s = .next
      { s with mrst := true, link := cutFrame s.link
               mgmt := { s.mgmt with iface := .idle, resetOwed := false, dropped := false, barrierTimer := .stopped,
                                     enables := 0#8 } }) ∧
    (∀ t, exec .mrstNAssert s = .next t → t.rdy = false ∧ t.attn = false) ∧
    (exec .mrstNRelease s = .next { s with mrst := false }) ∧
    (s.mrst = true → ∀ c, (requestBytes c).isSome = true ∨ (∃ f, c = .requestDropped f) ∨ (∃ n, c = .readFrame n) →
      exec c s = .next s)

/-! ### Uplink Watch -/

/-- R7 and the table of section 1.5 for a change of d: each state, with the onsets of R19. A change of a filtered line level is recorded and
re-evaluates that uplink alone. That a level already held changes nothing is the model's choice (log 3); that a count of at least the flap
limit damps, where R19 says a count brought to it, is its inference (log 25). -/
def Obligations.DarknessDrivesTheUplinkStates : Prop :=
  (∀ (u : Fin 32) (level : Bool) (s : State), Runs s →
    (level ≠ s.uplinks[u].line → exec (.filteredLineLevelChange u level) s =
      .next (watchStep (withUplink s u (Uplink.reevaluate { s.uplinks[u] with line := level })) s)) ∧
    (level = s.uplinks[u].line → LiveCurrent s → exec (.filteredLineLevelChange u level) s = .next s)) ∧
  ∀ v : Uplink,
    (v.rawDark = true ↔ (v.line = true ∧ v.config.lineEnable = true) ∨ v.code = .localFault ∨ v.code = .remoteFault ∨
      (v.code = .degraded ∧ v.config.degradedIsDark = true)) ∧
    (v.rawDark = v.d → v.reevaluate = v) ∧
    (v.rawDark = true → v.d = false → v.state = .lit ∨ v.state = .restoring →
      (v.config.flapLimit ≠ 0#4 → v.config.flapLimit.toNat ≤ v.onset + 1 →
        v.reevaluate = { v with d := true, state := .damped, qualify := .running (v.config.holdTime.toNat * 1000000),
                                onset := 0, window := .stopped, dampEntries := satInc v.dampEntries }) ∧
      (v.config.flapLimit = 0#4 ∨ v.onset + 1 < v.config.flapLimit.toNat →
        ∃ w : Uplink,
          w = { v with d := true
                       onset := if v.config.flapLimit = 0#4 then v.onset else v.onset + 1
                       window := if v.config.flapLimit = 0#4 ∨ v.onset ≠ 0 then v.window
                                 else .running (v.config.flapWindow.toNat * 1000000) } ∧
          (v.state = .lit → v.config.darkQualify ≠ 0#8 → v.reevaluate =
            { w with state := .suspect, qualify := .running (v.config.darkQualify.toNat * 10) }) ∧
          (v.state = .restoring ∨ v.config.darkQualify = 0#8 → v.reevaluate =
            { w with state := .dark, qualify := .stopped, darkEntries := satInc v.darkEntries }))) ∧
    (v.rawDark = false → v.d = true →
      (v.state = .suspect → v.reevaluate = { v with d := false, state := .lit, qualify := .stopped }) ∧
      (v.state = .dark → v.config.restoreTime = 0#16 →
        v.reevaluate = { v with d := false, state := .lit, qualify := .stopped }) ∧
      (v.state = .dark → v.config.restoreTime ≠ 0#16 → v.reevaluate =
        { v with d := false, state := .restoring, qualify := .running (v.config.restoreTime.toNat * 1000) })) ∧
    (v.state = .adminDown ∨ v.state = .damped → v.reevaluate = { v with d := v.rawDark })

/-- The four timers of an uplink: each running timer's expiry is taken in the state that loaded it; a stopped timer does not
expire (R9), and that its expiry command then changes nothing is the model's choice (log 3). -/
def Obligations.UplinkTimersExpire : Prop :=
  ∀ (u : Fin 32) (s : State), Runs s → ∀ v, v = s.uplinks[u] →
    (v.state = .suspect → v.qualify ≠ .stopped → exec (.qualifyTimerExpiry u) s =
      .next (watchStep (withUplink s u { v with state := .dark, qualify := .stopped, darkEntries := satInc v.darkEntries }) s)) ∧
    (v.state = .restoring → v.qualify ≠ .stopped → exec (.restoreTimerExpiry u) s =
      .next (watchStep (withUplink s u { v with state := .lit, qualify := .stopped }) s)) ∧
    (v.state = .damped → v.qualify ≠ .stopped → exec (.holdTimerExpiry u) s =
      .next (watchStep (withUplink s u
        (if v.d = true then { v with state := .dark, qualify := .stopped, darkEntries := satInc v.darkEntries }
         else if v.config.restoreTime = 0#16 then { v with state := .lit, qualify := .stopped }
         else { v with state := .restoring, qualify := .running (v.config.restoreTime.toNat * 1000) })) s)) ∧
    (v.window ≠ .stopped → exec (.windowTimerExpiry u) s =
      .next (watchStep (withUplink s u { v with onset := 0, window := .stopped }) s)) ∧
    (v.qualify = .stopped → LiveCurrent s →
      exec (.qualifyTimerExpiry u) s = .next s ∧ exec (.restoreTimerExpiry u) s = .next s ∧
        exec (.holdTimerExpiry u) s = .next s) ∧
    (v.window = .stopped → LiveCurrent s → exec (.windowTimerExpiry u) s = .next s)

/-- Scan frames: a frame starts in TRACKING or STALE with a pulse on SCAN_LOAD; 68 edges on SCAN_CLK later it is judged; a good frame
replaces the codes in one step and ends STALE with the SCAN flag; a bad frame is discarded and counted up to 8, and the eighth in
TRACKING makes the scan STALE with the flag. That the two commands change nothing while the scan is OFF, when no frame starts or is judged,
is the model's choice (log 3). The record of the edges is the model's own (log 34). -/
def Obligations.ScanFramesAreJudgedWhole : Prop :=
  ∀ (bits : BitVec 68) (s : State), Runs s →
    (s.scan.state ≠ .off → exec .scanFrameStart s = .next
      { s with scan := { s.scan with inFrame := true, driven := pulseOnly } }) ∧
    (s.scan.state = .off → exec .scanFrameStart s = .next s ∧ exec (.scanFrameJudged bits) s = .next s) ∧
    (s.scan.state ≠ .off → s.scan.inFrame = true → goodMarker bits = true → ∃ s1 : State,
      s1 = { s with scan := { s.scan with state := .tracking, bad := 0, inFrame := false, driven := pulseAnd68 } } ∧
      exec (.scanFrameJudged bits) s = .next
        (watchStep
          (Vector.ofFn fun u : Fin 32 =>
            if codeAt bits u = s.uplinks[u].code then s.uplinks[u]
            else Uplink.reevaluate { s.uplinks[u] with code := codeAt bits u })
          (if s.scan.state = .stale then flagged 0x04#8 s1 else s1))) ∧
    (s.scan.state ≠ .off → s.scan.inFrame = true → goodMarker bits = false →
      exec (.scanFrameJudged bits) s = .next
        (if s.scan.state = .tracking ∧ 7 ≤ s.scan.bad then
          flagged 0x04#8 { s with scan := { s.scan with state := .stale, bad := 8, inFrame := false, driven := pulseAnd68 } }
         else { s with scan := { s.scan with bad := if 7 ≤ s.scan.bad then 8 else s.scan.bad + 1, inFrame := false,
                                             driven := pulseAnd68 } }))

/-- Configure Uplink stores the seven fields clamped, clears the count first when flap_limit changes, then re-evaluates d when
line_enable or degraded_is_dark changes; no running timer is altered otherwise. Bits 5 to 7 of the uplink byte are ignored. The reply
carries the fields as stored; that those bits are 0 in its uplink byte is the model's choice (log 32). -/
def Obligations.ConfigureUplinkStoresClampedFields : Prop :=
  ∀ (b : Byte) (u : Fin 32) (c : UplinkConfig) (s : State), Listens s → u.val = b.toNat % 32 →
    ∀ v w : Uplink, v = s.uplinks[u] →
      w = { v with config := storedConfig c
                   onset := if c.flapLimit = v.config.flapLimit then v.onset else 0
                   window := if c.flapLimit = v.config.flapLimit then v.window else .stopped } →
      exec (.configureUplink (frameRest (b :: encodeConfig c))) s = .next
        (replied .ok (BitVec.ofNat 8 u.val :: encodeConfig (storedConfig c))
          (watchStep (withUplink s u
            (if c.lineEnable = v.config.lineEnable ∧ c.degradedIsDark = v.config.degradedIsDark then w else w.reevaluate))
            (fed 10 s)))

/-- Set Admin: a clear takes every named uplink to ADMIN_DOWN, a set brings every named ADMIN_DOWN uplink up by its d and its
restore time, all in one step; the others are left as they are. -/
def Obligations.SetAdminMovesNamedUplinks : Prop :=
  ∀ (us : UplinkSet) (s : State), Listens s →
    exec (.setAdminClear (encodeSetAdmin false us)) s = .next (replied .ok [] (watchStep
      (Vector.ofFn fun u : Fin 32 =>
        if us.getLsbD u.val = true ∧ s.uplinks[u].state ≠ .adminDown then
          { s.uplinks[u] with state := .adminDown, qualify := .stopped, window := .stopped, onset := 0 }
        else s.uplinks[u]) (fed 7 s))) ∧
    exec (.setAdminSet (encodeSetAdmin true us)) s = .next (replied .ok [] (watchStep
      (Vector.ofFn fun u : Fin 32 =>
        if us.getLsbD u.val = true ∧ s.uplinks[u].state = .adminDown then
          if s.uplinks[u].d = true then
            { s.uplinks[u] with state := .dark, qualify := .stopped, darkEntries := satInc s.uplinks[u].darkEntries }
          else if s.uplinks[u].config.restoreTime = 0#16 then { s.uplinks[u] with state := .lit, qualify := .stopped }
          else { s.uplinks[u] with state := .restoring
                                   qualify := .running (s.uplinks[u].config.restoreTime.toNat * 1000) }
        else s.uplinks[u]) (fed 7 s)))

/-- Configure Scan in each scan state: the period is stored clamped to 20 to 2000; leaving or entering OFF sets every code to OK
and the bad count to 0, and leaving STALE sets the SCAN flag; OFF holds SCAN_LOAD and SCAN_CLK low. That the first frame starts in this
same step is the model's choice (log 15), and so is what the record of the edges keeps of an abandoned frame (log 34). -/
def Obligations.ConfigureScanStartsAndStops : Prop :=
  ∀ (p q : BitVec 16) (s : State), Listens s →
    q = (if p.toNat < 20 then 20#16 else if 2000 < p.toNat then 2000#16 else p) →
    ∀ okCodes : Vector Uplink 32,
      okCodes = (Vector.ofFn fun u : Fin 32 =>
        if s.uplinks[u].code = .ok then s.uplinks[u] else Uplink.reevaluate { s.uplinks[u] with code := .ok }) →
      (s.scan.state = .off →
        exec (.configureScanEnable (encodeConfigureScan true p)) s = .next (replied .ok (0x01#8 :: bytes16 q)
          (watchStep okCodes
            { fed 5 s with scan := { state := .tracking, period := q, bad := 0, inFrame := true, driven := pulseOnly } })) ∧
        exec (.configureScanDisable (encodeConfigureScan false p)) s = .next (replied .ok (0x00#8 :: bytes16 q)
          { fed 5 s with scan := { s.scan with period := q } })) ∧
      (s.scan.state ≠ .off →
        exec (.configureScanEnable (encodeConfigureScan true p)) s = .next
          (replied .ok ((if s.scan.state = .stale then 0x02#8 else 0x01#8) :: bytes16 q)
            { fed 5 s with scan := { s.scan with period := q } }) ∧
        ∃ s1 : State, s1 = { fed 5 s with scan := { state := .off, period := q, bad := 0, inFrame := false, driven := [] } } ∧
          s1.scanLoad = false ∧ s1.scanClk = false ∧
          exec (.configureScanDisable (encodeConfigureScan false p)) s = .next (replied .ok (0x00#8 :: bytes16 q)
            (watchStep okCodes (if s.scan.state = .stale then flagged 0x04#8 s1 else s1))))

/-- A step of Uplink Watch: it sets the UPLINK flag once if some uplink entered DARK, LIT, DAMPED or ADMIN_DOWN; it keeps the live
set the uplinks in LIT or SUSPECT; a change of it is reported to both ports and the settled set is recomputed; with none, nothing
else changes. -/
def Obligations.LiveSetChangesAreReported : Prop :=
  ∀ (us : Vector Uplink 32) (s : State),
    let entered : Prop := ∃ u : Fin 32, us[u].state ≠ s.uplinks[u].state ∧
      (us[u].state = .dark ∨ us[u].state = .lit ∨ us[u].state = .damped ∨ us[u].state = .adminDown)
    ∃ (s1 : State) (live : UplinkSet), ((entered ∧ s1 = flagged 0x02#8 { s with uplinks := us }) ∨ (¬ entered ∧ s1 = { s with uplinks := us })) ∧
      (∀ u : Fin 32, live.getLsbD u.val = true ↔ us[u].state = .lit ∨ us[u].state = .suspect) ∧
      (live = s.live → watchStep us s = s1) ∧
      (live ≠ s.live → watchStep us s = resettle
        { s1 with live := live
                  lp0 := portReport (s.live &&& ~~~live) live s.ackTimeout s.lp0
                  lp1 := portReport (s.live &&& ~~~live) live s.ackTimeout s.lp1 })

/-- A recomputation of the settled set: an uplink job is appended, in ascending order, for each uplink that joined or left and has
none waiting; an idle engine starts the first whose chain is not empty, and the ones before it end at once, whether a Barrier waits or not.
That all jobs of one change are queued before the idle engine takes one, so that WALK_IDLE is set once at most, is the model's inference
(log 11), and so is that a Barrier's test is evaluated once, when the engine has taken a job or become IDLE (log 10). -/
def Obligations.SettledSetChangesQueueJobs : Prop :=
  ∀ s : State, ∀ S : UplinkSet,
    (∀ u : Fin 32, S.getLsbD u.val = true ↔ s.live.getLsbD u.val = true ∧
      (s.lp0.state = .up → s.lp0.ackUp.getLsbD u.val = true) ∧ (s.lp1.state = .up → s.lp1.ackUp.getLsbD u.val = true)) →
    ∀ moved : List (Fin 32),
      moved = ((List.finRange 32).filter fun u =>
        (S.getLsbD u.val != s.settled.getLsbD u.val) && !decide (WaitingJob.uplink u ∈ s.walk.queue)) →
      (s.walk.job ≠ none → resettle s =
        { s with settled := S, walk := { s.walk with queue := s.walk.queue ++ moved.map .uplink } }) ∧
      (s.walk.job = none → s.walk.queue = [] →
        (moved = [] → resettle s = { s with settled := S }) ∧
        (∀ done u rest, moved = done ++ u :: rest → (∀ v ∈ done, s.table.chains[v] = []) → ∀ g tail,
          s.table.chains[u] = g :: tail → resettle s = barrierCheck
            { s with settled := S, walk := { queue := rest.map .uplink, job := some (.uplink u (some g)) } }) ∧
        (moved ≠ [] → (∀ v ∈ moved, s.table.chains[v] = []) →
          resettle s = barrierCheck (flagged 0x20#8 { s with settled := S })))

/-! ### The Path Table -/

/-- The frames of Install, Modify, Retire and Read Group: the checks in their order, then the request waits for its access. That the frame
and the granted access are two commands is the model's reading (log 5). -/
def Obligations.GroupRequestsAreChecked : Prop :=
  ∀ s : State, Listens s →
    (∀ f : InstallFields, f.group < 65536 → Carried f.members →
      ∃ t, t = fed (encodeInstall f).length s ∧
      (s.table.ready = false → exec (.installGroup (.frame (encodeInstall f))) s = .next (replied .notReady [] t)) ∧
      (s.table.ready = true → 4096 ≤ f.group →
        exec (.installGroup (.frame (encodeInstall f))) s = .next (replied .range [] t)) ∧
      (s.table.ready = true → f.group < 4096 → ¬ listValid f.members →
        exec (.installGroup (.frame (encodeInstall f))) s = .next (replied .badRequest [] t)) ∧
      (s.table.ready = true → f.group < 4096 → listValid f.members →
        exec (.installGroup (.frame (encodeInstall f))) s = .next (serving (.group (.install f)) t))) ∧
    (∀ f : ModifyFields, f.group < 65536 → Carried f.members →
      ∃ t, t = fed (encodeModify f).length s ∧
      (s.table.ready = false → exec (.modifyGroup (.frame (encodeModify f))) s = .next (replied .notReady [] t)) ∧
      (s.table.ready = true → 4096 ≤ f.group →
        exec (.modifyGroup (.frame (encodeModify f))) s = .next (replied .range [] t)) ∧
      (s.table.ready = true → f.group < 4096 → ¬ listValid f.members →
        exec (.modifyGroup (.frame (encodeModify f))) s = .next (replied .badRequest [] t)) ∧
      (s.table.ready = true → f.group < 4096 → listValid f.members →
        exec (.modifyGroup (.frame (encodeModify f))) s = .next (serving (.group (.modify f)) t))) ∧
    (∀ (g : Nat) (n : Generation), g < 65536 →
      (s.table.ready = false → exec (.retireGroup (.frame (encodeRetire g n))) s = .next (replied .notReady [] (fed 8 s)) ∧
        exec (.readGroup (.frame (encodeReadGroup g))) s = .next (replied .notReady [] (fed 4 s))) ∧
      (s.table.ready = true → 4096 ≤ g →
        exec (.retireGroup (.frame (encodeRetire g n))) s = .next (replied .range [] (fed 8 s)) ∧
        exec (.readGroup (.frame (encodeReadGroup g))) s = .next (replied .range [] (fed 4 s))) ∧
      (s.table.ready = true → g < 4096 →
        exec (.retireGroup (.frame (encodeRetire g n))) s = .next (serving (.group (.retire g n)) (fed 8 s)) ∧
        exec (.readGroup (.frame (encodeReadGroup g))) s = .next (serving (.group (.read g)) (fed 4 s))))

/-- Install Group's granted access: a FREE group becomes ACTIVE with its fields, its floor clamped and a full placement from an
empty map, is linked, and is reported; EXISTS or PENDING otherwise, with nothing changed. -/
def Obligations.InstallGroupFillsAFreeGroup : Prop :=
  ∀ (f : InstallFields) (s : State), Runs s → s.mgmt.iface = .serving (.group (.install f)) → s.grantee = some .mgmt →
    ∀ r, r = s.group f.group →
      (r.state = .active → exec (.installGroup .granted) s =
        .next (replied .exists_ (stateAndGen .active r.gen) (granted .mgmt s))) ∧
      (r.state = .retiring → exec (.installGroup .granted) s =
        .next (replied .pending (stateAndGen .retiring r.gen) (granted .mgmt s))) ∧
      (r.state = .free → exec (.installGroup .granted) s =
        .next (replied .ok (stateAndGen .active (nextGen r.gen))
          (reportChange f.group (nextGen r.gen) (relink f.group 0#32 (related f.members)
            ((granted .mgmt s).setGroup f.group
              { state := .active, gen := nextGen r.gen, mode := f.mode, floor := storedFloor f.floor f.members,
                members := f.members
                map := place .full f.members (storedFloor f.floor f.members) (List.replicate 64 none) s.settled })))))

/-- Modify Group's granted access: the check of the expected generation; then the map rewritten by uplink, the fields and the clamped
floor stored, a full placement in either mode, the chains relinked; the generation rises and the change is reported exactly when the
content differs. -/
def Obligations.ModifyGroupMatchesMembersByUplink : Prop :=
  ∀ (f : ModifyFields) (s : State), Runs s → s.mgmt.iface = .serving (.group (.modify f)) → s.grantee = some .mgmt →
    ∀ r, r = s.group f.group →
      (r.state = .free → exec (.modifyGroup .granted) s =
        .next (replied .absent (stateAndGen .free r.gen) (granted .mgmt s))) ∧
      (r.state = .retiring → exec (.modifyGroup .granted) s =
        .next (replied .pending (stateAndGen .retiring r.gen) (granted .mgmt s))) ∧
      (r.state = .active → f.expected ≠ 0#32 → f.expected ≠ r.gen → exec (.modifyGroup .granted) s =
        .next (replied .stale (stateAndGen .active r.gen) (granted .mgmt s))) ∧
      (r.state = .active → f.expected = 0#32 ∨ f.expected = r.gen →
        ∀ start : BucketMap, start.length = r.map.length →
          (∀ b < start.length, start[b]? =
            some (match (r.map[b]?).bind id with
              | none => none
              | some p =>
                match r.members[p]? with
                | none => none
                | some m => f.members.findIdx? fun n => n.uplink = m.uplink)) →
        ∀ r' : Group,
          r' = { r with mode := f.mode, floor := storedFloor f.floor f.members, members := f.members
                        map := place .full f.members (storedFloor f.floor f.members) start s.settled } →
          (r' = r → exec (.modifyGroup .granted) s =
            .next (replied .ok (stateAndGen .active r.gen) (granted .mgmt s))) ∧
          (r' ≠ r → exec (.modifyGroup .granted) s =
            .next (replied .ok (stateAndGen .active (nextGen r.gen))
              (reportChange f.group (nextGen r.gen) (relink f.group (related r.members) (related f.members)
                ((granted .mgmt s).setGroup f.group { r' with gen := nextGen r.gen }))))))

/-- Retire Group's granted access: the check of the expected generation; then the group is unlinked, RETIRING, its content kept,
the retirement reported; when no retract entry names it then, it is FREE within the access, with the RETIRED flag. -/
def Obligations.RetireGroupWaitsForItsRetracts : Prop :=
  ∀ (g : Nat) (expected : Generation) (s : State), Runs s → s.mgmt.iface = .serving (.group (.retire g expected)) →
    s.grantee = some .mgmt → ∀ r, r = s.group g →
      (r.state = .free → exec (.retireGroup .granted) s =
        .next (replied .absent (stateAndGen .free r.gen) (granted .mgmt s))) ∧
      (r.state = .retiring → exec (.retireGroup .granted) s =
        .next (replied .pending (stateAndGen .retiring r.gen) (granted .mgmt s))) ∧
      (r.state = .active → expected ≠ 0#32 → expected ≠ r.gen → exec (.retireGroup .granted) s =
        .next (replied .stale (stateAndGen .active r.gen) (granted .mgmt s))) ∧
      (r.state = .active → expected = 0#32 ∨ expected = r.gen →
        ∀ s1 : State,
          s1 = reportChange g (nextGen r.gen) (relink g (related r.members) 0#32
            ((granted .mgmt s).setGroup g { r with state := .retiring, gen := nextGen r.gen })) →
          (names s1.lp0 g ∨ names s1.lp1 g → exec (.retireGroup .granted) s =
            .next (replied .ok (stateAndGen .retiring (nextGen r.gen)) s1)) ∧
          (¬ names s1.lp0 g → ¬ names s1.lp1 g → exec (.retireGroup .granted) s =
            .next (replied .ok (stateAndGen .free (nextGen (nextGen r.gen)))
              (flagged 0x80#8 (s1.setGroup g (freedAt (nextGen (nextGen r.gen))))))))

/-- Read Group's granted access: it changes nothing but the reply; the effective map of an ACTIVE group is the one a Resolve would
carry, of any other 255 throughout, and a copy is reported exactly where a slot holds one of this group. A map is translated position by
position to uplinks. The bits of the reply that no table defines are 0 by the model's choice (log 32). -/
def Obligations.ReadGroupReportsWithoutChange : Prop :=
  TranslatesByMember ∧ ∀ (g : Nat) (s : State), Runs s → s.mgmt.iface = .serving (.group (.read g)) → s.grantee = some .mgmt →
    ∀ r, r = s.group g → ∀ held : Port → Bool,
      (∀ p : Port, held p = true ↔ ∃ c : Copy, sparseGet none p.slots (g % 1024) = some c ∧ c.group = g) →
      exec (.readGroup .granted) s = .next (replied .ok
        (bytes16 (BitVec.ofNat 16 g) ++ stateAndGen r.state r.gen ++
          [if r.mode = .hold then 0x01#8 else 0x00#8, BitVec.ofNat 8 r.floor,
            if r.state = .active then
              (if held s.lp0 then 0x01#8 else 0x00#8) ||| (if held s.lp1 then 0x02#8 else 0x00#8)
            else 0x00#8] ++
          encodeMembers r.members ++ translate r.members r.map ++
          (if r.state = .active then
            translate r.members
              (place (if r.mode = .hold then .keep else .full) r.members r.floor r.map s.settled)
           else List.replicate 64 255#8))
        (granted .mgmt s))

/-- The chain edits of an access: a chain related before and after keeps its link, one related after only gains the group at its tail,
one related before only loses it and keeps the order of the rest; the cursor follows; links move between pool and chains. -/
def Obligations.ChainEditsKeepOrderAndCursor : Prop :=
  ∀ (g : Nat) (old new : UplinkSet) (s t : State), t = relink g old new s →
    (∀ u : Fin 32, (s.table.chains[u]).Nodup →
      (old.getLsbD u.val = new.getLsbD u.val → t.table.chains[u] = s.table.chains[u]) ∧
      (old.getLsbD u.val = false → new.getLsbD u.val = true → g ∉ s.table.chains[u] →
        t.table.chains[u] = s.table.chains[u] ++ [g]) ∧
      (old.getLsbD u.val = true → new.getLsbD u.val = false →
        t.table.chains[u] = s.table.chains[u].filter fun h => h ≠ g)) ∧
    (∀ u : Fin 32, ∀ h : Nat, s.walk.job = some (.uplink u (some h)) →
      (h ≠ g ∨ old.getLsbD u.val = false ∨ new.getLsbD u.val = true → t.walk = s.walk) ∧
      (old.getLsbD u.val = true → new.getLsbD u.val = false → ∀ before after, s.table.chains[u] = before ++ g :: after →
        g ∉ before → h = g → t.walk = { s.walk with job := some (.uplink u after.head?) })) ∧
    (∀ u : Fin 32, s.walk.job = some (.uplink u none) →
      (old.getLsbD u.val = false → new.getLsbD u.val = true → g ∉ s.table.chains[u] →
        t.walk = { s.walk with job := some (.uplink u (some g)) }) ∧
      (old.getLsbD u.val = true ∨ new.getLsbD u.val = false → t.walk = s.walk)) ∧
    ((∀ u c, s.walk.job ≠ some (.uplink u c)) → t.walk = s.walk) ∧
    (linksIn t.table.chains ≤ s.table.freeLinks + linksIn s.table.chains →
      t.table.freeLinks + linksIn t.table.chains = s.table.freeLinks + linksIn s.table.chains) ∧
    t = { s with table := { s.table with chains := t.table.chains, freeLinks := t.table.freeLinks }, walk := t.walk } ∧
    ∀ (ms : List Member) (u : Fin 32), (related ms).getLsbD u.val = true ↔
      ∃ m ∈ ms, m.uplink = u ∨ ∃ c ∈ m.terms, c.watched = u

/-- A generation change or retirement reported to the Copy Directory, on each port: its slot for the group is emptied if it holds a
copy of it; a WAITING entry for the group is raised, or one is appended for the copy, and sent at once with a free credit. That the slot is emptied whatever the generation of its copy, where
R118 names the generation before the change, is the model's inference (log 9), the same in every state that meets R114. -/
def Obligations.ReportedChangesOweRetracts : Prop :=
  ∀ (g : Nat) (n : Generation) (s : State), OnPorts RetractsOk s →
    (reportChange g n s = { s with lp0 := (reportChange g n s).lp0, lp1 := (reportChange g n s).lp1 }) ∧
    ∀ i : PortId, ∀ p q : Port, p = s.port i → q = (reportChange g n s).port i →
      ∀ held : Bool, (held = true ↔ ∃ c : Copy, sparseGet none p.slots (g % 1024) = some c ∧ c.group = g) →
      ∀ waits : Bool, (waits = true ↔ ∃ e ∈ p.retracts, e.mark = .waiting ∧ e.group = g) →
      (∀ k, sparseGet none q.slots k = if held ∧ k = g % 1024 then none else sparseGet none p.slots k) ∧
      (held = false → waits = false → q = p) ∧
      (waits = true → q = { p with slots := q.slots
                                   retracts := p.retracts.map fun e =>
                                     if e.mark = .waiting ∧ e.group = g then { e with gen := n } else e }) ∧
      (held = true → waits = false → sentCount p.retracts = 64 →
        q = { p with slots := q.slots, retracts := p.retracts ++ [{ group := g, gen := n, mark := .waiting }] }) ∧
      (held = true → waits = false → sentCount p.retracts < 64 →
        q = { p with slots := q.slots, retracts := p.retracts ++ [{ group := g, gen := n, mark := .sent }]
                     transmit := p.transmit ++ [.retract g n]
                     counters := { p.counters with retractsSent := satInc p.counters.retractsSent }
                     ackTimer := if p.ackTimer = .stopped then .running (s.ackTimeout.toNat * 100) else p.ackTimer })

/-- Outside a full reset and the init sweep, a command that changes a group's record raises its generation by 1, or by 2 when it retires
the group and completes the retirement. -/
def Obligations.GenerationsRiseWithContent : Prop :=
  ∀ (c : Instr) (s t : State), SparseWf Group.reset s.table.groups → exec c s = .next t →
    c ≠ .porstNAssert → c ≠ .initSweepEnd → (∀ n, c = .readFrame n → s.mgmt.resetOwed = false) →
    ∀ g, t.group g = s.group g ∨ (t.group g).gen = nextGen (s.group g).gen ∨
      ((s.group g).state = .active ∧ t.group g = freedAt (nextGen (nextGen (s.group g).gen)))

/-- Range Survey: the checks of its frame; then one group an access, its state counted, the first FREE kept, an ACTIVE group's words added
to the digest modulo 2^32; the last access forms the reply. -/
def Obligations.RangeSurveyReadsOneGroupAnAccess : Prop :=
  (∀ (first count : Nat) (s : State), first < 65536 → count < 65536 → Listens s →
    (s.table.ready = false → exec (.rangeSurvey (encodeRange first count)) s = .next (replied .notReady [] (fed 6 s))) ∧
    (s.table.ready = true → count = 0 ∨ 4096 < first + count →
      exec (.rangeSurvey (encodeRange first count)) s = .next (replied .range [] (fed 6 s))) ∧
    (s.table.ready = true → 1 ≤ count → first + count ≤ 4096 →
      exec (.rangeSurvey (encodeRange first count)) s = .next
        (serving (.survey { next := first, left := count, active := 0, retiring := 0, free := 0, firstFree := none,
                            digest := 0#32 }) (fed 6 s)))) ∧
  (∀ (v : Survey) (s : State), Runs s → s.mgmt.iface = .serving (.survey v) → s.grantee = some .mgmt →
    ∀ r, r = s.group v.next → ∀ w : Survey,
      w = { next := v.next + 1, left := v.left - 1
            active := if r.state = .active then v.active + 1 else v.active
            retiring := if r.state = .retiring then v.retiring + 1 else v.retiring
            free := if r.state = .free then v.free + 1 else v.free
            firstFree := if r.state = .free ∧ v.firstFree = none then some v.next else v.firstFree
            digest := if r.state = .active then v.digest + BitVec.ofNat 32 (digestWords v.next r) else v.digest } →
      (v.left ≤ 1 → exec .rangeSurveyAccess s = .next (replied .ok
        (bytes16 (BitVec.ofNat 16 w.active) ++ bytes16 (BitVec.ofNat 16 w.retiring) ++ bytes16 (BitVec.ofNat 16 w.free) ++
          bytes16 (match w.firstFree with
            | none => 65535#16
            | some g => BitVec.ofNat 16 g) ++ bytes32 w.digest) (granted .mgmt s))) ∧
      (1 < v.left → exec .rangeSurveyAccess s = .next (serving (.survey w) (granted .mgmt s))))

/-- The arbiter grants nothing during INIT; in READY it grants the first waiting requester that follows, in the cyclic order LP0, LP1,
Walk Engine, Management Interface, the requester granted last. An access command of a requester that is not granted, and one that is not
the access its requester presents, changes nothing: R42 and R47 say that no such access takes place, and that the grant is worked out when
the command is taken, and a command without it changes nothing, is the model's (log 3, log 6). -/
def Obligations.ArbiterGrantsInCyclicOrder : Prop :=
  (∀ (s : State) (pos : Requester → Nat), pos .lp0 = 0 → pos .lp1 = 1 → pos .walk = 2 → pos .mgmt = 3 →
    ∀ after : Requester → Nat, (∀ q, after q = (pos q + 3 - pos s.table.lastGranted) % 4) →
    (s.table.ready = false → s.grantee = none) ∧
    (s.table.ready = true → ∀ q, s.grantee = some q ↔
      s.waits q = true ∧ ∀ q', s.waits q' = true → after q ≤ after q') ∧
    (∀ i : PortId, s.waits (requesterOf i) = true ↔ ∃ e ∈ (s.port i).answers, e.needsAccess = true ∧ e.answer = none) ∧
    (s.waits .walk = true ↔ s.walk.job ≠ none) ∧
    (s.waits .mgmt = true ↔ (∃ r, s.mgmt.iface = .serving (.group r)) ∨ ∃ v, s.mgmt.iface = .serving (.survey v))) ∧
  (∀ (s : State) (q : Requester), ∀ c ∈ accessesOf q, s.table.ready = false ∨ s.grantee ≠ some q → exec c s = .next s) ∧
  ∀ s : State,
    ((∀ u g, s.walk.job ≠ some (.uplink u (some g))) → exec .uplinkJobVisit s = .next s) ∧
    ((∀ u, s.walk.job ≠ some (.uplink u none)) → exec .closingAccess s = .next s) ∧
    ((∀ first count next, s.walk.job ≠ some (.sweep first count next)) → exec .sweepVisit s = .next s) ∧
    ((∀ f, s.mgmt.iface ≠ .serving (.group (.install f))) → exec (.installGroup .granted) s = .next s) ∧
    ((∀ f, s.mgmt.iface ≠ .serving (.group (.modify f))) → exec (.modifyGroup .granted) s = .next s) ∧
    ((∀ g n, s.mgmt.iface ≠ .serving (.group (.retire g n))) → exec (.retireGroup .granted) s = .next s) ∧
    ((∀ g, s.mgmt.iface ≠ .serving (.group (.read g))) → exec (.readGroup .granted) s = .next s) ∧
    ((∀ v, s.mgmt.iface ≠ .serving (.survey v)) → exec .rangeSurveyAccess s = .next s)

/-! ### The Walk Engine -/

/-- Rebalance Range: the checks of its frame; BUSY while 8 sweep jobs wait; else a sweep job is appended, and an idle engine starts it. -/
def Obligations.RebalanceRangeQueuesASweep : Prop :=
  ∀ (first count : Nat) (s : State), first < 65536 → count < 65536 → Listens s →
    (s.table.ready = false → exec (.rebalanceRange (encodeRange first count)) s = .next (replied .notReady [] (fed 6 s))) ∧
    (s.table.ready = true → count = 0 ∨ 4096 < first + count →
      exec (.rebalanceRange (encodeRange first count)) s = .next (replied .range [] (fed 6 s))) ∧
    (s.table.ready = true → 1 ≤ count → first + count ≤ 4096 →
      ∀ waiting : Nat, waiting = (s.walk.queue.filter fun j => j.isSweep).length →
      (8 ≤ waiting → exec (.rebalanceRange (encodeRange first count)) s = .next (replied .busy [] (fed 6 s))) ∧
      (waiting < 8 → s.walk.job ≠ none → exec (.rebalanceRange (encodeRange first count)) s = .next (replied .ok []
        { fed 6 s with walk := { s.walk with queue := s.walk.queue ++ [.sweep first count] } })) ∧
      (s.walk.job = none → s.walk.queue = [] → exec (.rebalanceRange (encodeRange first count)) s = .next (replied .ok []
        { fed 6 s with walk := { queue := [], job := some (.sweep first count first) } })))

/-- A granted visit of an uplink job: place by the group's mode, persist a map that differs under the next generation and report it,
count the visit, advance the cursor; at the chain's end the job ends within the access. -/
def Obligations.UplinkVisitsPersistPlacements : Prop :=
  ∀ (u : Fin 32) (g : Nat) (s : State), Runs s → s.walk.job = some (.uplink u (some g)) → s.grantee = some .walk →
    ∀ r map, r = s.group g →
      map = place (if r.mode = .hold then .keep else .full) r.members r.floor r.map s.settled →
      ∀ s1 s2 : State,
        s1 = (if map = r.map then granted .walk s
              else reportChange g (nextGen r.gen) ((granted .walk s).setGroup g { r with map := map, gen := nextGen r.gen })) →
        s2 = { s1 with mgmt := { s1.mgmt with walkVisits := satInc s.mgmt.walkVisits } } →
        ∀ before after, s.table.chains[u] = before ++ g :: after → g ∉ before →
          (∀ h rest, after = h :: rest →
            exec .uplinkJobVisit s = .next { s2 with walk := { s.walk with job := some (.uplink u (some h)) } }) ∧
          (after = [] → exec .uplinkJobVisit s = .next (takeNextJob { s2 with walk := { s.walk with job := none } }))

/-- A closing access reads no group and ends the job. A granted visit of a sweep job places an ACTIVE group in full, whatever its mode,
persists a map that differs, counts the visit and advances; the last visit ends the job and sets SWEEP_DONE. -/
def Obligations.SweepsVisitEveryGroupInFull : Prop :=
  ∀ s : State, Runs s → s.grantee = some .walk →
    (∀ u, s.walk.job = some (.uplink u none) →
      exec .closingAccess s = .next (takeNextJob { granted .walk s with walk := { s.walk with job := none } })) ∧
    (∀ first count next, s.walk.job = some (.sweep first count next) →
      ∀ r map, r = s.group next → map = place .full r.members r.floor r.map s.settled →
      ∀ s1 s2 : State,
        s1 = (if r.state ≠ .active ∨ map = r.map then granted .walk s
              else reportChange next (nextGen r.gen)
                ((granted .walk s).setGroup next { r with map := map, gen := nextGen r.gen })) →
        s2 = { s1 with mgmt := { s1.mgmt with walkVisits := satInc s.mgmt.walkVisits } } →
        (next + 1 < first + count →
          exec .sweepVisit s = .next { s2 with walk := { s.walk with job := some (.sweep first count (next + 1)) } }) ∧
        (next + 1 = first + count →
          exec .sweepVisit s = .next (takeNextJob (flagged 0x40#8 { s2 with walk := { s.walk with job := none } }))))

/-- The end of a job: the engine takes the head of the queue at once, an uplink job at the head of its chain or a sweep job at its first
group; an uplink job whose chain is empty ends at once; with an empty queue the engine is IDLE and WALK_IDLE is set. In every state, a job
in progress or not, the test of a waiting Barrier that holds is answered OK. That the test is evaluated at the end of the change is the model's inference (log 10), and that the
undefined bits of the outstanding byte are 0 its choice (log 32). -/
def Obligations.EndedJobsMakeWayForTheNext : Prop :=
  (∀ (q : List WaitingJob) (s : State), s.walk = { queue := q, job := none } →
    (q = [] → takeNextJob s = barrierCheck (flagged 0x20#8 s)) ∧
    (∀ f c rest, q = .sweep f c :: rest →
      takeNextJob s = barrierCheck { s with walk := { queue := rest, job := some (.sweep f c f) } }) ∧
    (∀ u rest g tail, q = .uplink u :: rest → s.table.chains[u] = g :: tail →
      takeNextJob s = barrierCheck { s with walk := { queue := rest, job := some (.uplink u (some g)) } }) ∧
    (∀ u rest, q = .uplink u :: rest → s.table.chains[u] = [] →
      takeNextJob s = takeNextJob { s with walk := { queue := rest, job := none } })) ∧
  ∀ s : State,
    (∀ b, s.mgmt.iface = .serving (.barrier b) →
      (testHolds b s → barrierCheck s = replied .ok [0#8, 0#8, 0#8, 0#8, 0#8]
        { s with mgmt := { s.mgmt with barrierTimer := .stopped } }) ∧ (¬ testHolds b s → barrierCheck s = s)) ∧
    ((∀ b, s.mgmt.iface ≠ .serving (.barrier b)) → barrierCheck s = s)

/-- Barrier: taken in READY it is answered OK at once when its test holds, and waits with its timer running otherwise, a timeout of 0
stored as 1 ms; its expiry while waiting is answered TIMEOUT with what remained. That the undefined bits of the outstanding byte are 0 is
the model's choice (log 32). -/
def Obligations.BarrierWaitsForItsTest : Prop :=
  (∀ (f : BarrierFields) (s : State), Listens s → ∀ b : BarrierTest,
    b = { uplinks := f.uplinks, sweeps := f.sweeps, retracts := f.retracts } →
    (s.table.ready = false → exec (.barrier (encodeBarrier f)) s = .next (replied .notReady [] (fed 9 s))) ∧
    (s.table.ready = true → testHolds b s → exec (.barrier (encodeBarrier f)) s = .next
      (replied .ok [0#8, 0#8, 0#8, 0#8, 0#8] { fed 9 s with mgmt := { (fed 9 s).mgmt with barrierTimer := .stopped } })) ∧
    (s.table.ready = true → ¬ testHolds b s → exec (.barrier (encodeBarrier f)) s = .next (serving (.barrier b)
      { fed 9 s with mgmt := { (fed 9 s).mgmt with
          barrierTimer := .running ((if f.timeout.toNat = 0 then 1 else f.timeout.toNat) * 1000) } }))) ∧
  (∀ (b : BarrierTest) (s : State), Runs s → s.mgmt.iface = .serving (.barrier b) → s.mgmt.barrierTimer ≠ .stopped →
    ∃ (left : UplinkSet) (o : Byte),
      (∀ u : Fin 32, left.getLsbD u.val = true ↔ b.uplinks.getLsbD u.val = true ∧ jobFor s u) ∧
      (o.getLsbD 0 = true ↔ b.sweeps = true ∧ sweepBusy s) ∧
      (o.getLsbD 1 = true ↔ b.retracts = true ∧ ¬ (s.lp0.retracts = [] ∧ s.lp1.retracts = [])) ∧ o.toNat < 4 ∧
      exec .barrierTimerExpiry s = .next (replied .timeout (bytes32 left ++ [o])
        { s with mgmt := { s.mgmt with barrierTimer := .stopped } }))

/-! ### Lookup Ports and the Copy Directory -/

/-- Lane lock gained: a DOWN port enters SYNC and forms a Down Vector naming the uplinks that are not live, with the PORT flag; in any
other state, which rules the event out, and in a reset, only the lock is tracked: the model's choice (log 3, log 28). -/
def Obligations.LockGainedEntersSync : Prop :=
  ∀ (i : PortId) (s : State), ∀ p, p = s.port i →
    (s.porst = false → p.state = .down → exec (.laneLockGained i) s = .next (flagged 0x08#8 (s.setPort i
      { p with
        locked := true, state := .sync, nextSeq := if p.nextSeq = 255#8 then 1#8 else p.nextSeq + 1#8
        outstanding := some { sequence := p.nextSeq, notLive := ~~~s.live }
        transmit := p.transmit ++ [.downVector { sequence := p.nextSeq, notLive := ~~~s.live }]
        ackTimer := if p.ackTimer = .stopped then .running (s.ackTimeout.toNat * 100) else p.ackTimer }))) ∧
    (s.porst = true ∨ p.state ≠ .down →
      exec (.laneLockGained i) s = .next (s.setPort i { p with locked := true }))

/-- Lane lock lost takes a port in SYNC, UP or FAULT to DOWN; a DOWN port, which has no lock to lose, and a part
in reset only track the lock: the model's choice (log 3, log 28). A port reset empties
the port, completes every RETIRING group that the other port's list does not name, sets PORT, and FAULT on entry to FAULT; a port that
was UP lets the settled set be recomputed and its jobs be queued. A waiting Barrier is tested at the end of the change, which is the
model's inference (log 10). -/
def Obligations.PortResetEmptiesThePort : Prop :=
  ∀ (i : PortId) (s : State),
    (∀ s1, s1 = s.setPort i { s.port i with locked := false } →
      (s.porst = false → (s.port i).state ≠ .down → exec (.laneLockLost i) s = .next (portReset i .down s1)) ∧
      (s.porst = true ∨ (s.port i).state = .down → exec (.laneLockLost i) s = .next s1)) ∧
    (SparseWf Group.reset s.table.groups → ∀ new t, new = .down ∨ new = .fault → t = portReset i new s →
      (∃ (completes : Bool) (s1 : State),
        (completes = true ↔ ∃ g, (s.group g).state = .retiring ∧ ¬ names (s.port (other i)) g) ∧
        SparseWf Group.reset s1.table.groups ∧
        (∀ g, s1.group g =
          if (s.group g).state = .retiring ∧ (((s.port (other i)).retracts.any fun e => e.group = g) = false) then
            freedAt (nextGen (s.group g).gen)
          else s.group g) ∧
        s1 = { s.setPort i (resetPort new (s.port i)) with
          table := { s.table with groups := s1.table.groups }
          mgmt := { s.mgmt with flags := s.mgmt.flags ||| (if completes then 0x80#8 else 0x00#8) ||| 0x08#8 |||
                                         (if new = .fault then 0x10#8 else 0x00#8) } } ∧
        t = barrierCheck (if (s.port i).state = .up then resettle s1 else s1)) ∧
      t.port i = resetPort new (s.port i) ∧ t.port (other i) = s.port (other i) ∧
      (∀ g, t.group g =
        if (s.group g).state = .retiring ∧ (((s.port (other i)).retracts.any fun e => e.group = g) = false) then
          freedAt (nextGen (s.group g).gen)
        else s.group g) ∧
      (∃ completes : Bool,
        (completes = true ↔ ∃ g, (s.group g).state = .retiring ∧ ¬ names (s.port (other i)) g) ∧
        t.mgmt.flags ||| 0x20#8 = s.mgmt.flags ||| 0x20#8 ||| 0x08#8 ||| (if new = .fault then 0x10#8 else 0x00#8) |||
          (if completes then 0x80#8 else 0x00#8) ∧
        ((s.port i).state ≠ .up → t.mgmt.flags = s.mgmt.flags ||| 0x08#8 |||
          (if new = .fault then 0x10#8 else 0x00#8) ||| (if completes then 0x80#8 else 0x00#8))) ∧
      ((s.port i).state ≠ .up → t.settled = s.settled ∧ t.walk = s.walk) ∧
      ((s.port i).state = .up → t.settled = settledOf s.live t.lp0 t.lp1) ∧
      t.uplinks = s.uplinks ∧ t.scan = s.scan ∧ t.live = s.live ∧ t.table.chains = s.table.chains ∧
      t.table.freeLinks = s.table.freeLinks ∧ t.table.lastGranted = s.table.lastGranted ∧ t.table.ready = s.table.ready ∧
      t.ackTimeout = s.ackTimeout ∧ t.porst = s.porst ∧ t.mrst = s.mrst ∧ t.mgmt.enables = s.mgmt.enables ∧
      t.mgmt.resetOwed = s.mgmt.resetOwed ∧ t.mgmt.dropped = s.mgmt.dropped ∧ t.mgmt.walkVisits = s.mgmt.walkVisits ∧
      t.mgmt.droppedRequests = s.mgmt.droppedRequests ∧ t.mgmt.sdo = s.mgmt.sdo ∧ t.pending = s.pending)

/-- The protocol errors: each takes a port in SYNC or UP to FAULT with a port reset, and the message has no other effect; in FAULT
nothing is taken (R92). That a message on a DOWN port, where none arrives, and the expiry of an ack timer in DOWN or FAULT, where it is
stopped, change nothing is the model's choice (log 3). -/
def Obligations.ProtocolErrorsFaultThePort : Prop :=
  ∀ (i : PortId) (s : State), Runs s → ∀ p, p = s.port i →
    (p.state = .sync ∨ p.state = .up →
      (∀ n, (∀ v, p.outstanding = some v → v.sequence ≠ n) → exec (.vectorAck i n) s = .next (portReset i .fault s)) ∧
      (∀ g : BitVec 16, p.state = .sync ∨ (∀ e, p.retracts.find? (fun e => e.mark = .sent) = some e → e.group ≠ g.toNat) →
        exec (.retractDone i g) s = .next (portReset i .fault s)) ∧
      (∀ bytes, decodeLane bytes = .unknown → exec (.unknownKind i bytes) s = .next (portReset i .fault s)) ∧
      (∀ bytes, decodeLane bytes = .wrongLength → exec (.wrongLengthMessage i bytes) s = .next (portReset i .fault s)) ∧
      (∀ x, 64 ≤ p.answers.length → exec (.resolve i x) s = .next (portReset i .fault s)) ∧
      (p.ackTimer ≠ .stopped → exec (.ackTimerExpiry i) s = .next (portReset i .fault s))) ∧
    (p.state = .down ∨ p.state = .fault →
      ∀ (n : Byte) (x : BitVec 16) (bytes : List Byte),
        exec (.vectorAck i n) s = .next s ∧ exec (.retractDone i x) s = .next s ∧ exec (.resolve i x) s = .next s ∧
          exec (.unknownKind i bytes) s = .next s ∧ exec (.wrongLengthMessage i bytes) s = .next s ∧
          exec (.ackTimerExpiry i) s = .next s) ∧
    (∀ bytes : List Byte,
      (decodeLane bytes = .unknown ↔ bytes = [] ∨ ∃ k, bytes.head? = some k ∧ k ≠ 0x01#8 ∧ k ≠ 0x02#8 ∧ k ≠ 0x03#8) ∧
      (decodeLane bytes = .wrongLength ↔
        (bytes.head? = some 0x01#8 ∨ bytes.head? = some 0x02#8) ∧ bytes.length ≠ 3 ∨
          bytes.head? = some 0x03#8 ∧ bytes.length ≠ 2))

/-- A Resolve at its arrival: the first row of R94 that applies decides; a short Answer joins the transmit order at once when every Answer
ahead of it has. -/
def Obligations.ResolvesAreTakenInOrder : Prop :=
  ∀ (i : PortId) (x : BitVec 16) (s : State), Runs s → ∀ p, p = s.port i → p.state = .sync ∨ p.state = .up →
    (64 ≤ p.answers.length → exec (.resolve i x) s = .next (portReset i .fault s)) ∧
    (p.answers.length < 64 → TransmitOk p →
      ∀ short : AnswerStatus → Port, (∀ st, short st =
        if (p.answers.all fun e => e.joined) = true then
          { p with answers := p.answers ++ [{ index := x, needsAccess := false, joined := true
                                              answer := some { index := x, status := st, body := none } }]
                   transmit := p.transmit ++ [.answer { index := x, status := st, body := none }] }
        else
          { p with answers := p.answers ++ [{ index := x, needsAccess := false, joined := false
                                              answer := some { index := x, status := st, body := none } }] }) →
      (p.state = .sync ∨ s.table.ready = false → exec (.resolve i x) s = .next (s.setPort i (short .notReady))) ∧
      (p.state = .up → s.table.ready = true → 4096 ≤ x.toNat →
        exec (.resolve i x) s = .next (s.setPort i (short .badGroup))) ∧
      (p.state = .up → s.table.ready = true → x.toNat < 4096 → 32 ≤ p.unanswered →
        exec (.resolve i x) s = .next (s.setPort i (short .busy))) ∧
      (p.state = .up → s.table.ready = true → x.toNat < 4096 → p.unanswered < 32 →
        exec (.resolve i x) s = .next (s.setPort i
          { p with unanswered := p.unanswered + 1
                   answers := p.answers ++ [{ index := x, needsAccess := true, answer := none, joined := false }] })))

/-- The granted access of a port's oldest unserved Resolve: NO_ROUTE unless the group is ACTIVE; OK with the effective map, or NO_LIVE with
255 throughout, with the generation, and the copy recorded in the slot; then the Answers that may join the transmit order do, in order. A
map is translated position by position to uplinks. -/
def Obligations.ResolveAccessesFormAnswers : Prop :=
  TranslatesByMember ∧
  (∀ (i : PortId) (s : State), Runs s → s.grantee = some (requesterOf i) →
    ∀ p before e after, p = s.port i → p.answers = before ++ e :: after → e.needsAccess = true → e.answer = none →
      (∀ d ∈ before, d.needsAccess = true → d.answer ≠ none) →
      ∀ r, r = s.group e.index.toNat → ∀ answered : Answer → List ResolveEntry,
        (∀ a, answered a = before ++ { e with answer := some a } :: after) →
        (r.state ≠ .active → exec (.resolveAccess i) s = .next ((granted (requesterOf i) s).setPort i (Port.joinReady
          { p with answers := answered { index := e.index, status := .noRoute, body := none } }))) ∧
        (r.state = .active → ∀ q : Answer → Port,
          (∀ a, q a = { p with answers := answered a
                               slots := sparseSet none p.slots (e.index.toNat % 1024)
                                 (some { group := e.index.toNat, gen := r.gen }) }) →
          (someActive s.settled r.floor r.members → exec (.resolveAccess i) s = .next ((granted (requesterOf i) s).setPort i
            (Port.joinReady (q { index := e.index, status := .ok, body := some (r.gen, translate r.members
              (place (if r.mode = .hold then .keep else .full) r.members r.floor r.map s.settled)) })))) ∧
          (¬ someActive s.settled r.floor r.members → exec (.resolveAccess i) s = .next ((granted (requesterOf i) s).setPort i
            (Port.joinReady (q { index := e.index, status := .noLive
                                 body := some (r.gen, List.replicate 64 255#8) })))))) ∧
  (∀ (p : Port) (first ready rest : List ResolveEntry), p.answers = first ++ ready ++ rest →
    (∀ e ∈ first, e.joined = true) → (∀ e ∈ ready, e.joined = false ∧ e.answer ≠ none) →
    (∀ e, rest.head? = some e → e.joined = false ∧ e.answer = none) →
    p.joinReady = { p with answers := first ++ ready.map (fun e => { e with joined := true }) ++ rest
                           transmit := p.transmit ++ (ready.filterMap (·.answer)).map .answer })

/-- A Vector Ack: one that does not match is a protocol error. A matching one: the acknowledged up-set is what the vector names up, less what
is no longer live; with the pending flag a new vector is formed and the port stays in its state, without it a port in SYNC enters UP;
the ack timer is restarted or stopped; in UP the settled set is recomputed, and entry to UP does not change it. -/
def Obligations.MatchingVectorAcksAreTaken : Prop :=
  ∀ (i : PortId) (s : State), Runs s → ∀ p, p = s.port i → p.state = .sync ∨ p.state = .up →
    (∀ n, (∀ v, p.outstanding = some v → v.sequence ≠ n) → exec (.vectorAck i n) s = .next (portReset i .fault s)) ∧
    ∀ v, p.outstanding = some v →
      ∀ p1 : Port, p1 = { p with ackUp := ~~~v.notLive &&& s.live, outstanding := none, pendingFlag := false } →
      ∀ restarted : Timer, restarted = .running (s.ackTimeout.toNat * 100) →
        (p.pendingFlag = true → ∀ q : Port,
          q = { p1 with nextSeq := if p.nextSeq = 255#8 then 1#8 else p.nextSeq + 1#8, ackTimer := restarted
                        outstanding := some { sequence := p.nextSeq, notLive := ~~~s.live }
                        transmit := p.transmit ++ [.downVector { sequence := p.nextSeq, notLive := ~~~s.live }] } →
          (p.state = .sync → exec (.vectorAck i v.sequence) s = .next (s.setPort i q)) ∧
          (p.state = .up → exec (.vectorAck i v.sequence) s = .next (resettle (s.setPort i q)))) ∧
        (p.pendingFlag = false → ∀ q : Port,
          q = { p1 with state := .up
                        ackTimer := if (p.retracts.any fun e => e.mark = .sent) = true then restarted else .stopped } →
          (p.state = .up → exec (.vectorAck i v.sequence) s = .next (resettle (s.setPort i q))) ∧
          (p.state = .sync → exec (.vectorAck i v.sequence) s = .next (resettle (flagged 0x08#8 (s.setPort i q))) ∧
            (SettledInv s → q.ackUp = s.live ∧ ∀ t, exec (.vectorAck i v.sequence) s = .next t → t.settled = s.settled)))

/-- A matching Retract Done removes the oldest SENT entry, sends the oldest WAITING one, restarts or stops the ack timer, and completes the
retirement of the removed entry's group when no entry on either port names it any longer. A waiting Barrier is tested at the end of the
change, which is the model's inference (log 10). -/
def Obligations.MatchingRetractDonesAreTaken : Prop :=
  ∀ (i : PortId) (s : State), Runs s → RetractsOk (s.port i) → ∀ p e rest, p = s.port i → p.state = .up →
    p.retracts = e :: rest → e.mark = .sent → ∀ g : BitVec 16, g.toNat = e.group →
    ∀ (q : Port) (s1 : State), s1 = s.setPort i q →
      ((∃ (sent : List RetractEntry) (w : RetractEntry) (later : List RetractEntry), rest = sent ++ w :: later ∧
          (∀ d ∈ sent, d.mark = .sent) ∧ w.mark = .waiting ∧
          q = { p with retracts := sent ++ { w with mark := .sent } :: later, transmit := p.transmit ++ [.retract w.group w.gen]
                       counters := { p.counters with retractsSent := satInc p.counters.retractsSent }
                       ackTimer := .running (s.ackTimeout.toNat * 100) }) ∨
        ((∀ d ∈ rest, d.mark = .sent) ∧
          q = { p with retracts := rest
                       ackTimer := if p.outstanding = none ∧ rest = [] then .stopped
                                   else .running (s.ackTimeout.toNat * 100) })) →
      ((s.group e.group).state = .retiring → ¬ names s1.lp0 e.group → ¬ names s1.lp1 e.group →
        exec (.retractDone i g) s = .next (barrierCheck (flagged 0x80#8
          (s1.setGroup e.group (freedAt (nextGen (s.group e.group).gen)))))) ∧
      ((s.group e.group).state ≠ .retiring ∨ names s1.lp0 e.group ∨ names s1.lp1 e.group →
        exec (.retractDone i g) s = .next (barrierCheck s1))

/-- Messages leave in the order of the transmit order, in the bytes of R169 between an opening and a closing delimiter, and a port with none to
send sends idle characters. The record of the last message's characters is the model's own (log 13), and so is that the lane is idle at
once when a reset empties the transmit order (log 36). An Answer takes its entry from the answer order list, lowers the
unanswered count if it took an access, and raises the counter of its status. -/
def Obligations.MessagesLeaveInOrder : Prop :=
  ∀ (i : PortId) (s : State), Runs s → ∀ p, p = s.port i →
    (∀ a rest e es, p.transmit = .answer a :: rest → p.answers = e :: es → ∀ code : Byte,
      code = (match a.status with
        | .ok => 0x00#8
        | .noLive => 0x01#8
        | .noRoute => 0x02#8
        | .badGroup => 0x03#8
        | .busy => 0x04#8
        | .notReady => 0x05#8) →
      exec (.answerLeaves i) s = .next (s.setPort i
        { p with
          transmit := rest, answers := es, unanswered := if e.needsAccess then p.unanswered - 1 else p.unanswered
          counters := { p.counters with
            answersOk := if a.status = .ok then satInc p.counters.answersOk else p.counters.answersOk
            answersNoRoute := if a.status = .noRoute then satInc p.counters.answersNoRoute else p.counters.answersNoRoute
            answersBusy := if a.status = .busy then satInc p.counters.answersBusy else p.counters.answersBusy }
          sent := .opening :: (0x81#8 :: bytes16 a.index ++ code :: (match a.body with
            | none => []
            | some (gen, map) => bytes32 gen ++ map)).map .data ++ [.closing] })) ∧
    (∀ g n rest, p.transmit = .retract g n :: rest → exec (.messageLeaves i) s = .next (s.setPort i
      { p with transmit := rest
               sent := .opening :: (0x82#8 :: bytes16 (BitVec.ofNat 16 g) ++ bytes32 n).map .data ++ [.closing] })) ∧
    (∀ v rest, p.transmit = .downVector v :: rest → exec (.messageLeaves i) s = .next (s.setPort i
      { p with transmit := rest
               sent := .opening :: (0x83#8 :: v.sequence :: bytes32 v.notLive).map .data ++ [.closing] })) ∧
    (p.sendsIdle = true ↔ p.transmit = []) ∧
    (PortsInv s → ∀ a rest, p.transmit = .answer a :: rest →
      ∃ e es, p.answers = e :: es ∧ e.joined = true ∧ e.answer = some a)

/-- A message or event of one port leaves the other port as it was, and both ports' commands leave Uplink Watch, the live set and the walk's
tables of chains as they were. -/
def Obligations.PortCommandsLeaveTheOtherPort : Prop :=
  ∀ (c : Instr) (i : PortId) (s t : State), portOf c = some i → exec c s = .next t →
    t.port (other i) = s.port (other i) ∧ t.uplinks = s.uplinks ∧ t.live = s.live ∧ t.scan = s.scan ∧
      t.table.chains = s.table.chains ∧ t.table.freeLinks = s.table.freeLinks ∧ t.ackTimeout = s.ackTimeout ∧
      (∀ g, (s.group g).state = .active → t.group g = s.group g)

/-! ### The Management Interface -/

/-- Request frames: discarded unjudged while MRST_N is low; dropped, flagged and counted while a request is in progress or a reply waits;
answered BAD_REQUEST with no other effect when malformed. -/
def Obligations.RequestFramesAreJudged : Prop :=
  (∀ (c : Instr) (k : Byte) (rest : List Byte) (s : State), requestBytes c = some (k, rest) → c.wellFormed = true → Runs s →
    (s.mrst = true → exec c s = .next s) ∧
    (s.mrst = false → s.mgmt.iface ≠ .idle → exec c s = .next
      { s with mgmt := { s.mgmt with dropped := true, droppedRequests := satInc s.mgmt.droppedRequests
                                     sdo := List.replicate (rest.length + 1) 0x00#8 } }) ∧
    (Listens s → frameFits k rest = false → exec c s = .next (replied .badRequest [] (fed rest.length s)))) ∧
  (∀ (k : Byte) (rest : List Byte) (s : State), k ≠ 0xA5#8 → Runs s → s.mrst = false → s.mgmt.iface ≠ .idle →
    exec (.requestDropped (k :: rest)) s = .next
      { s with mgmt := { s.mgmt with dropped := true, droppedRequests := satInc s.mgmt.droppedRequests
                                     sdo := List.replicate (rest.length + 1) 0x00#8 } }) ∧
  (∀ (k : Byte) (rest : List Byte) (s : State), Listens s → isUnknownRequestKind k = true →
    exec (.unknownRequestKind k rest) s = .next (replied .badRequest [] (fed rest.length s)))

/-- A read frame shifts out a waiting reply, with the dropped bit, then fill bytes, empties the buffer and clears the dropped flag, and a
full reset that is owed follows; with no reply waiting it shifts out fill bytes and changes nothing, and a reply formed while such a
frame is in progress stays for the next. RDY is asserted exactly while a reply waits. Full Reset is answered at once and the reset is owed. That the flag is sampled, the reply shifted out and the buffer emptied in one step is the model's choice (log 23),
and so is the record of the bytes shifted out (log 12), in which the lead byte shows fill. -/
def Obligations.ReadFramesReturnTheReply : Prop :=
  (∀ s : State, s.rdy = true ↔ ∃ r, s.mgmt.iface = .replyReady r) ∧
  ∀ (n : Nat) (s : State), Runs s → s.mrst = false →
    (∀ r, s.mgmt.iface = .replyReady r → ∀ out : List Byte,
      out = 0x00#8 :: (statusByte r.status :: (if s.mgmt.dropped then 0x01#8 else 0x00#8) ::
        bytes16 (BitVec.ofNat 16 r.payload.length) ++ r.payload ++ List.replicate n 0x00#8).take n →
      (s.mgmt.resetOwed = false → exec (.readFrame n) s = .next
        { s with mgmt := { s.mgmt with iface := .idle, dropped := false, sdo := out } }) ∧
      (s.mgmt.resetOwed = true → exec (.readFrame n) s = .next
        { afterFullReset s with mgmt := { (afterFullReset s).mgmt with sdo := out } })) ∧
    ((∀ r, s.mgmt.iface ≠ .replyReady r) → exec (.readFrame n) s = .next (fed n s)) ∧
    (∀ rest, s.link = { selected := true, cut := false, found := false, clocked := 0xA5#8 :: rest } → s.rdy = true →
      linkEvent .deselect s = { fed rest.length s with link := noFrame }) ∧
    (s.mgmt.iface = .idle → exec (.fullResetRequest (frameRest [])) s = .next
      (replied .ok [] { fed 2 s with mgmt := { (fed 2 s).mgmt with resetOwed := true } }))

/-- Identify, Read Status, Read Uplink and Configure Ports: what each reply carries; the first three change nothing else, the last stores the
ack timeout, 0 as 1, and alters no running timer. That the bits of Read Uplink's bytes that no table defines are 0 is the model's choice
(log 32). -/
def Obligations.OneStepRequestsReply : Prop :=
  ∀ s : State, Listens s →
    (exec (.identify (frameRest [])) s = .next (replied .ok
      [0x32#8, 0x40#8, 0x01#8, 32#8, 0x10#8, 0x00#8, 8#8, 64#8, 0x04#8, 0x00#8, 2#8] (fed 2 s))) ∧
    (exec (.readStatus (frameRest [])) s = .next (replied .ok
      ([if s.table.ready then 1#8 else 0#8, portByte s.lp0.state, portByte s.lp1.state, scanByte s.scan.state,
        if s.walk.job = none then 0#8 else 1#8, BitVec.ofNat 8 s.walk.queue.length] ++ bytes32 s.live ++ bytes32 s.settled ++
        [s.mgmt.flags]) (fed 2 s))) ∧
    (∀ (b : Byte) (u : Fin 32), u.val = b.toNat % 32 → ∀ v, v = s.uplinks[u] →
      exec (.readUplink (frameRest [b])) s = .next (replied .ok
        ([BitVec.ofNat 8 u.val, uplinkByte v.state] ++ encodeConfig v.config ++
          [(if v.d then 0x01#8 else 0x00#8) ||| (if v.line then 0x02#8 else 0x00#8) |||
              (match v.code with
                | .ok => 0x00#8
                | .localFault => 0x04#8
                | .remoteFault => 0x08#8
                | .degraded => 0x0C#8),
            BitVec.ofNat 8 v.onset] ++ bytes16 v.darkEntries ++ bytes16 v.dampEntries) (fed 3 s))) ∧
    (∀ (b stored : Byte), stored = (if b.toNat = 0 then 1#8 else b) →
      exec (.configurePorts (frameRest [b])) s = .next (replied .ok [stored] { fed 3 s with ackTimeout := stored }))

/-- Read Events takes the flags both set and enabled and clears exactly those; Set Event Enables changes the enables it names alone; ATTN is
asserted exactly while a flag is both set and enabled. -/
def Obligations.EventsAreCollectedWhenEnabled : Prop :=
  (∀ s : State, Listens s →
    (∀ taken : Byte, (∀ b < 8, taken.getLsbD b = (s.mgmt.flags.getLsbD b && s.mgmt.enables.getLsbD b)) →
      ∃ left : Byte, (∀ b < 8, left.getLsbD b = (s.mgmt.flags.getLsbD b && !s.mgmt.enables.getLsbD b)) ∧
        ∃ t, exec (.readEvents (frameRest [])) s = .next t ∧ t.attn = false ∧
          t = replied .ok [taken] { fed 2 s with mgmt := { (fed 2 s).mgmt with flags := left } }) ∧
    (∀ f e : Byte, (∀ b < 8, e.getLsbD b = (s.mgmt.enables.getLsbD b || f.getLsbD b)) →
      exec (.setEventEnablesSet (encodeSetEnables true f)) s = .next
        (replied .ok [e] { fed 4 s with mgmt := { (fed 4 s).mgmt with enables := e } })) ∧
    (∀ f e : Byte, (∀ b < 8, e.getLsbD b = (s.mgmt.enables.getLsbD b && !f.getLsbD b)) →
      exec (.setEventEnablesClear (encodeSetEnables false f)) s = .next
        (replied .ok [e] { fed 4 s with mgmt := { (fed 4 s).mgmt with enables := e } }))) ∧
  (∀ s : State, s.attn = true ↔ ∃ b < 8, s.mgmt.flags.getLsbD b = true ∧ s.mgmt.enables.getLsbD b = true)

/-- Read Counters reports all 76 counters in their order, 176 bytes, as they stand; with keep no counter changes, with clear every one is 0
after the same step. -/
def Obligations.CountersAreReadTogether : Prop :=
  ∀ s : State, Listens s → ∀ (ports : Port → List Byte) (payload : List Byte),
    (∀ p, ports p = bytes32 p.counters.answersOk ++ bytes32 p.counters.answersNoRoute ++ bytes32 p.counters.answersBusy ++
      bytes32 p.counters.retractsSent ++ bytes32 p.counters.faults) →
    payload = ((List.finRange 32).flatMap fun u => bytes16 s.uplinks[u].darkEntries ++ bytes16 s.uplinks[u].dampEntries) ++
      ports s.lp0 ++ ports s.lp1 ++ bytes32 s.mgmt.walkVisits ++ bytes32 s.mgmt.droppedRequests →
    payload.length = 176 ∧
    exec (.readCounters (encodeReadCounters false)) s = .next (replied .ok payload (fed 3 s)) ∧
    ∃ us : Vector Uplink 32,
      (∀ u : Fin 32, us[u] = { s.uplinks[u] with darkEntries := 0#16, dampEntries := 0#16 }) ∧
      exec (.readCountersClear (encodeReadCounters true)) s = .next (replied .ok payload
        { fed 3 s with
          uplinks := us, lp0 := { s.lp0 with counters := PortCounters.zero }, lp1 := { s.lp1 with counters := PortCounters.zero }
          mgmt := { (fed 3 s).mgmt with walkVisits := 0#32, droppedRequests := 0#32 } })

/-- Outside a clearing Read Counters and a full reset no counter falls; outside Read Events and a full reset no event flag is cleared. -/
def Obligations.CountersAndFlagsLatch : Prop :=
  ∀ (c : Instr) (s t : State), exec c s = .next t → c ≠ .porstNAssert → (∀ n, c = .readFrame n → s.mgmt.resetOwed = false) →
    ((∀ rest, c ≠ .readCountersClear rest) →
      (∀ u : Fin 32, s.uplinks[u].darkEntries ≤ t.uplinks[u].darkEntries ∧ s.uplinks[u].dampEntries ≤ t.uplinks[u].dampEntries) ∧
      (∀ i : PortId, (s.port i).counters.answersOk ≤ (t.port i).counters.answersOk ∧
        (s.port i).counters.answersNoRoute ≤ (t.port i).counters.answersNoRoute ∧
        (s.port i).counters.answersBusy ≤ (t.port i).counters.answersBusy ∧
        (s.port i).counters.retractsSent ≤ (t.port i).counters.retractsSent ∧
        (s.port i).counters.faults ≤ (t.port i).counters.faults) ∧
      s.mgmt.walkVisits ≤ t.mgmt.walkVisits ∧ s.mgmt.droppedRequests ≤ t.mgmt.droppedRequests) ∧
    ((∀ rest, c ≠ .readEvents rest) → ∀ b, s.mgmt.flags.getLsbD b = true → t.mgmt.flags.getLsbD b = true)

/-! ### Bucket placement -/

/-- Quotas: 0 for weight 0 (a position outside A); otherwise the base quota, plus 1 for those the extras go to: the largest remainders, the lower
position among equals; they sum to 64. -/
def Obligations.QuotasSumTo64 : Prop :=
  ∀ (ws : List Nat) (W : Nat), W = ws.sum → 0 < W →
    (quotas ws).length = ws.length ∧ (quotas ws).sum = 64 ∧
    (∀ i w : Nat, ws[i]? = some w →
      (w = 0 → (quotas ws)[i]? = some 0) ∧
      (0 < w → (quotas ws)[i]? = some (64 * w / W) ∨ (quotas ws)[i]? = some (64 * w / W + 1))) ∧
    ∀ i j wi wj : Nat, ws[i]? = some wi → ws[j]? = some wj → 0 < wi → 0 < wj →
      (quotas ws)[i]? = some (64 * wi / W + 1) → (quotas ws)[j]? = some (64 * wj / W) →
      64 * wj % W < 64 * wi % W ∨ (64 * wj % W = 64 * wi % W ∧ i < j)

/-- The active set, and the law for effective maps: with it not empty every bucket names a member of it, with it empty every bucket is
NONE. -/
def Obligations.EveryBucketNamesAnActiveMember : Prop :=
  ∀ (kind : Kind) (ms : List Member) (floor : Nat) (start : BucketMap) (S : UplinkSet), start.length = 64 →
    (place kind ms floor start S).length = 64 ∧
    (someActive S floor ms → ∀ b ∈ place kind ms floor start S, ∃ p, b = some p ∧ isActive S floor ms p) ∧
    (¬ someActive S floor ms → place kind ms floor start S = List.replicate 64 none) ∧
    ∀ p, isActive S floor ms p ↔ ∃ m, ms[p]? = some m ∧ canCarry S m = true ∧
      (m.role = .primary ∨ (ms.filter fun n => canCarry S n && decide (n.role = .primary)).length < floor)

/-- How the two kinds end when A is not empty: full leaves every member of A at its quota; keep keeps every bucket of a member of A, gives the
others only to members short of their quotas, and ends at quota from an empty map. The quotas are those of the weights of the members of A, a
position outside A counting 0. -/
def Obligations.PlacementsEndAtQuotaOrKeep : Prop :=
  (∀ (ms : List Member) (floor : Nat) (S : UplinkSet), (activeWeights S floor ms).length = ms.length ∧
    ∀ p m, ms[p]? = some m →
      (isActive S floor ms p → (activeWeights S floor ms)[p]? = some m.weight.val) ∧
      (¬ isActive S floor ms p → (activeWeights S floor ms)[p]? = some 0)) ∧
  ∀ (ms : List Member) (floor : Nat) (start : BucketMap) (S : UplinkSet), start.length = 64 → someActive S floor ms →
    (∀ p < ms.length, (place .full ms floor start S).count (some p) = quotaOf S floor ms p) ∧
    (∀ b p : Nat, start[b]? = some (some p) → isActive S floor ms p → (place .keep ms floor start S)[b]? = some (some p)) ∧
    (∀ b p : Nat, (place .keep ms floor start S)[b]? = some (some p) → start[b]? ≠ some (some p) →
      (place .keep ms floor start S).count (some p) ≤ quotaOf S floor ms p) ∧
    ((∀ x ∈ start, x = none) → ∀ p < ms.length, (place .keep ms floor start S).count (some p) = quotaOf S floor ms p)

/-- Placement is idempotent: a map a placement produced, placed again under a settled set that gives the same active set, is returned
unchanged; so is a full placement's map by a keep placement. -/
def Obligations.PlacementIsIdempotent : Prop :=
  ∀ (kind again : Kind) (ms : List Member) (floor : Nat) (start : BucketMap) (S T : UplinkSet), start.length = 64 →
    (∀ p, isActive S floor ms p ↔ isActive T floor ms p) → again = kind ∨ again = .keep →
    place again ms floor (place kind ms floor start S) T = place kind ms floor start S

/-- A shrinking active set disturbs survivors by at most one bucket each in a full placement, and by none in a keep placement. -/
def Obligations.ShrinkingDisturbsAtMostOneBucket : Prop :=
  ∀ (ms : List Member) (floor : Nat) (start : BucketMap) (S T : UplinkSet), start.length = 64 →
    (∀ p, isActive T floor ms p → isActive S floor ms p) →
    ∀ before : BucketMap, before = place .full ms floor start S → ∀ p : Nat, isActive T floor ms p →
      ((List.range 64).filter fun b =>
        before[b]? = some (some p) ∧ (place .full ms floor before T)[b]? ≠ some (some p)).length ≤ 1 ∧
      ∀ b : Nat, before[b]? = some (some p) → (place .keep ms floor before T)[b]? = some (some p)

/-- The two freeing steps and the order of filling: NONE and buckets of members outside A are free; in a full placement a member keeps its
quota of buckets, the lowest-numbered; each free bucket goes, in ascending order, to the largest deficit, the lower position among equals, and
a bucket that is not free stays. A placement whose active set is not empty is this freeing and then this filling (R59). -/
def Obligations.FreeingAndFillingGoInOrder : Prop :=
  (∀ (kind : Kind) (ms : List Member) (floor : Nat) (start : BucketMap) (S : UplinkSet), someActive S floor ms →
    ∀ act qs m, act = activeSet S floor ms → qs = quotas (activeWeights S floor ms) → m = freed kind act qs start →
      place kind ms floor start S = fillFree (deficits act qs m) m) ∧
  (∀ (ds : List (Option Int)) (p : Nat) (rest : BucketMap), fillFree ds [] = [] ∧
    fillFree ds (some p :: rest) = some p :: fillFree ds rest) ∧
  (∀ (act : List Bool) (qs : List Nat) (start : BucketMap) (b p : Nat),
    ((freed .keep act qs start)[b]? = some (some p) ↔ start[b]? = some (some p) ∧ act.getD p false = true) ∧
    ((freed .full act qs start)[b]? = some (some p) ↔ start[b]? = some (some p) ∧ act.getD p false = true ∧
      (start.take b).count (some p) < qs.getD p 0)) ∧
  (∀ (ds : List (Option Int)) (p : Nat) (d : Int), largestDeficit ds 0 none = some (p, d) ↔
    ds[p]? = some (some d) ∧ ∀ q e, ds[q]? = some (some e) → e < d ∨ (e = d ∧ p ≤ q)) ∧
  (∀ (ds : List (Option Int)) (rest : BucketMap) (p : Nat) (d : Int), largestDeficit ds 0 none = some (p, d) →
    fillFree ds (none :: rest) = some p :: fillFree (ds.set p (some (d - 1))) rest) ∧
  (∀ (act : List Bool) (qs : List Nat) (m : BucketMap) (p : Nat), p < act.length →
    (deficits act qs m)[p]? = some (if act.getD p false then some ((qs.getD p 0 : Int) - (m.count (some p) : Int)) else none))

/-! ### Encodings -/

/-- The request frames carry every field: what is encoded is what is decoded, with every operand at every value a frame admits; the bits of
an uplink byte, a term byte and an attributes byte that are to be ignored are. -/
def Obligations.RequestFramesRoundTrip : Prop :=
  (∀ f : InstallFields, f.group < 65536 → Carried f.members → (payloadOf (encodeInstall f)).bind decodeInstall = some f) ∧
  (∀ f : ModifyFields, f.group < 65536 → Carried f.members → (payloadOf (encodeModify f)).bind decodeModify = some f) ∧
  (∀ u c, (payloadOf (encodeConfigureUplink u c)).bind decodeConfigureUplink = some (u, c)) ∧
  (∀ a us, (payloadOf (encodeSetAdmin a us)).bind decodeSetAdmin = some (a, us)) ∧
  (∀ e p, (payloadOf (encodeConfigureScan e p)).bind decodeConfigureScan = some (e, p)) ∧
  (∀ g n, g < 65536 → (payloadOf (encodeRetire g n)).bind decodeRetire = some (g, n)) ∧
  (∀ g, g < 65536 → (payloadOf (encodeReadGroup g)).bind decodeReadGroup = some g) ∧
  (∀ f c, f < 65536 → c < 65536 → (payloadOf (encodeRange f c)).bind decodeRange = some (f, c)) ∧
  (∀ b, (payloadOf (encodeBarrier b)).bind decodeBarrier = some b) ∧
  (∀ a f, (payloadOf (encodeSetEnables a f)).bind decodeSetEnables = some (a, f)) ∧
  (∀ o, (payloadOf (encodeReadCounters o)).bind decodeReadCounters = some o) ∧
  (∀ b bs, decodeConfigureUplink (b :: bs) = decodeConfigureUplink ((b &&& 0x1F#8) :: bs)) ∧
  (∀ (b : Byte) (u : Fin 32), u.val = b.toNat % 32 → (payloadOf (frameRest [b])).bind decodeReadUplink = some u) ∧
  (∀ n b bs, takeTerms (n + 1) (b :: bs) = takeTerms (n + 1) ((b &&& 0x3F#8) :: bs)) ∧
  (∀ n u a bs, takeMembers (n + 1) (u :: a :: bs) = takeMembers (n + 1) ((u &&& 0x1F#8) :: (a &&& 0x7F#8) :: bs))

/-- Whatever bytes come in on the management link or a lane make one command, well formed and the one their kind names: no byte none, a lead
byte A5h a read frame, another a request frame of that kind, dropped unless the interface is IDLE. A frame is held from the fall of CS_N to
its rise, when its command comes to the front of the queue; one that a reset cuts, or that begins while one is held, is discarded with no
other effect (that its events stand in front of the queue is log 30). On a locked lane the bytes between two
delimiters are one message. Lane lock is gained at 32 consecutive idle characters, and lost when 4 of at most 16 consecutive characters are
undecodable or the signal is lost; the message in part is then discarded. -/
def Obligations.ReceivedBytesMakeOneCommand : Prop :=
  (∀ idle : Bool, frameInstr idle [] = none) ∧
  (∀ (idle : Bool) (rest : List Byte), frameInstr idle (0xA5#8 :: rest) = some (.readFrame rest.length)) ∧
  (∀ (k : Byte) (rest : List Byte), k ≠ 0xA5#8 →
    frameInstr false (k :: rest) = some (.requestDropped (k :: rest)) ∧ (Instr.requestDropped (k :: rest)).wellFormed = true ∧
    ∃ c, frameInstr true (k :: rest) = some c ∧ c.wellFormed = true ∧ requestBytes c = some (k, rest)) ∧
  (∀ (s : State) (bytes : List Byte), s.link.selected = false →
    ∀ t, t = linkEvent .deselect (clocking bytes (linkEvent .select s)) →
      (s.mrst = true ∨ s.porst = true → t = { s with link := noFrame }) ∧
      (s.mrst = false → s.porst = false → t =
        { s with link := noFrame, pending := (frameInstr (decide (s.mgmt.iface = .idle)) bytes).toList ++ s.pending })) ∧
  (∀ (c : Instr) (s t : State), exec c s = .next t → c = .mrstNAssert ∨ (c = .porstNAssert ∧ Runs s) → t.link = cutFrame s.link) ∧
  (∀ s : State, s.link.cut = true →
    ∀ bytes, clocking bytes s = s ∧ linkEvent .deselect s = { s with link := noFrame }) ∧
  (∀ s : State, s.link.selected = true → s.mrst = true ∨ s.porst = true → linkEvent .deselect s = { s with link := noFrame }) ∧
  (∀ (p : PortId) (bytes : List Byte), (laneInstr p bytes).wellFormed = true ∧ portOf (laneInstr p bytes) = some p ∧
    (∀ x, laneInstr p bytes = .resolve p x ↔ ∃ h l, bytes = [0x01#8, h, l] ∧ x = be16 h l) ∧
    (∀ x, laneInstr p bytes = .retractDone p x ↔ ∃ h l, bytes = [0x02#8, h, l] ∧ x = be16 h l) ∧
    (∀ n, laneInstr p bytes = .vectorAck p n ↔ bytes = [0x03#8, n]) ∧
    (∀ r : LaneReceiver, r.locked = true → r.message = none → r.recent.count true < 4 →
      receiveAll p r (.opening :: bytes.map .data ++ [.closing]) = [laneInstr p bytes])) ∧
  (∀ (p : PortId) (cs : List LaneChar),
    ((∀ before after, cs ≠ before ++ List.replicate 32 .idle ++ after) → receiveAll p LaneReceiver.start cs = []) ∧
    ((∀ before after, cs ++ List.replicate 31 .idle ≠ before ++ List.replicate 32 .idle ++ after) →
      receiveAll p LaneReceiver.start (cs ++ List.replicate 32 .idle) = [.laneLockGained p]) ∧
    (.signalLost ∉ cs →
      (.laneLockLost p ∈ receiveAll p LaneReceiver.start (List.replicate 32 .idle ++ cs) ↔
        ∃ before run after, cs = before ++ run ++ after ∧ run.length ≤ 16 ∧ 4 ≤ run.count .undecodable))) ∧
  (∀ (p : PortId) (r : LaneReceiver) (c : LaneChar), r.locked = true →
    c = .signalLost ∨ (c = .undecodable ∧ 3 ≤ (r.recent.take 15).count true) →
    receive p r c = (LaneReceiver.start, [.laneLockLost p]))
end

