-- ==== Sys2Proof/Laws/Link.lean ====
section
/-! SUPPORT. What a reset does to the frame in progress on the management link, and what an event of the link can change. -/
namespace Sys2Proof.Machine

@[simp] theorem Link.cutShort_selected (l : Link) : l.cutShort.selected = l.selected := rfl
@[simp] theorem Link.cutShort_cut (l : Link) : l.cutShort.cut = l.selected := rfl
@[simp] theorem Link.cutShort_cutShort (l : Link) : l.cutShort.cutShort = l.cutShort := rfl
@[simp] theorem State.fullReset_link (s : State) : s.fullReset.link = s.link.cutShort := rfl
@[simp] theorem State.fullReset_fullReset (s : State) : s.fullReset.fullReset = s.fullReset := rfl

/-- An event of the link changes the frame in progress, the queue and the record of SDO, and nothing else. -/
theorem linkEvent_frame (e : LinkEvent) (s : State) :
    ∃ l q d, linkEvent e s = { s with link := l, pending := q, mgmt := { s.mgmt with sdo := d } } := by
  cases e <;> simp only [linkEvent, selectLink, clockLink, deselectLink, endFrame]
  all_goals repeat' split
  all_goals exact ⟨_, _, _, rfl⟩

end Sys2Proof.Machine
end

