-- ==== Sys2Proof/Laws/Sparse.lean ====
section
/-! SUPPORT. The laws of sparse tables: what a read after a write gives, and that every operation keeps the canonical form. -/
namespace Sys2Proof.Machine

variable {α : Type}

@[simp] theorem sparseGet_nil (dflt : α) (k : Nat) : sparseGet dflt [] k = dflt := rfl

/-- A number that is not listed reads as the default. -/
theorem sparseGet_unlisted (dflt : α) (l : SparseTable α) (k : Nat) (h : ∀ e ∈ l, e.1 ≠ k) : sparseGet dflt l k = dflt := by
  induction l with
  | nil => rfl
  | cons e t ih =>
    obtain ⟨k', v⟩ := e
    simp only [sparseGet]
    rw [if_neg (h (k', v) (by simp))]
    exact ih fun e he => h e (List.mem_cons_of_mem _ he)

theorem sparseGet_filter_same (dflt : α) (l : SparseTable α) (k : Nat) :
    sparseGet dflt (l.filter fun e => e.1 ≠ k) k = dflt :=
  sparseGet_unlisted dflt _ k (by simp)

theorem sparseGet_filter_other (dflt : α) (l : SparseTable α) {k j : Nat} (h : j ≠ k) :
    sparseGet dflt (l.filter fun e => e.1 ≠ k) j = sparseGet dflt l j := by
  induction l with
  | nil => rfl
  | cons e t ih =>
    obtain ⟨k', v⟩ := e
    by_cases hk : k' = k
    · rw [List.filter_cons_of_neg (by simp [hk]), ih]
      simp only [sparseGet]
      rw [if_neg (by omega)]
    · rw [List.filter_cons_of_pos (by simp [hk])]
      simp only [sparseGet, ih]

theorem sparseGet_insert (dflt : α) (l : SparseTable α) (k : Nat) (v : α) (h : ∀ e ∈ l, e.1 ≠ k) (j : Nat) :
    sparseGet dflt (sparseInsert k v l) j = if j = k then v else sparseGet dflt l j := by
  induction l with
  | nil => simp only [sparseInsert, sparseGet]; split <;> simp_all [eq_comm]
  | cons e t ih =>
    obtain ⟨k', v'⟩ := e
    have hk : k' ≠ k := h (k', v') (by simp)
    simp only [sparseInsert]
    split
    · simp only [sparseGet]; split <;> simp_all [eq_comm]
    · simp only [sparseGet]
      rw [ih fun e he => h e (List.mem_cons_of_mem _ he)]
      by_cases hj : k' = j
      · rw [if_pos hj, if_neg (by omega), if_pos hj]
      · rw [if_neg hj, if_neg hj]

/-- A read after a write: the value written at its number, the old value elsewhere. -/
theorem sparseGet_sparseSet [DecidableEq α] (dflt : α) (l : SparseTable α) (k : Nat) (v : α) (j : Nat) :
    sparseGet dflt (sparseSet dflt l k v) j = if j = k then v else sparseGet dflt l j := by
  unfold sparseSet
  by_cases hv : v = dflt
  · simp only [hv, if_true]
    by_cases hj : j = k
    · rw [if_pos hj, hj, sparseGet_filter_same]
    · rw [if_neg hj, sparseGet_filter_other dflt l hj]
  · simp only [hv, if_false]
    rw [sparseGet_insert dflt _ k v (by simp)]
    by_cases hj : j = k
    · rw [if_pos hj, if_pos hj]
    · rw [if_neg hj, if_neg hj, sparseGet_filter_other dflt l hj]

@[simp] theorem sparseGet_sparseSet_same [DecidableEq α] (dflt : α) (l : SparseTable α) (k : Nat) (v : α) :
    sparseGet dflt (sparseSet dflt l k v) k = v := by simp [sparseGet_sparseSet]

theorem sparseGet_sparseSet_other [DecidableEq α] (dflt : α) (l : SparseTable α) (k : Nat) (v : α) {j : Nat} (h : j ≠ k) :
    sparseGet dflt (sparseSet dflt l k v) j = sparseGet dflt l j := by simp [sparseGet_sparseSet, h]

theorem mem_sparseInsert (k : Nat) (v : α) (l : SparseTable α) (e : Nat × α) :
    e ∈ sparseInsert k v l ↔ e = (k, v) ∨ e ∈ l := by
  induction l with
  | nil => simp [sparseInsert]
  | cons x t ih =>
    obtain ⟨k', v'⟩ := x
    simp only [sparseInsert]
    split
    · simp
    · simp only [List.mem_cons, ih]; tauto

/-- What a table lists after a write. -/
theorem mem_sparseSet [DecidableEq α] (dflt : α) (l : SparseTable α) (k : Nat) (v : α) (e : Nat × α) :
    e ∈ sparseSet dflt l k v ↔ (e = (k, v) ∧ v ≠ dflt) ∨ (e ∈ l ∧ e.1 ≠ k) := by
  unfold sparseSet
  by_cases hv : v = dflt
  · simp [hv]
  · simp [hv, mem_sparseInsert, List.mem_filter]

theorem sorted_sparseInsert (k : Nat) (v : α) (l : SparseTable α) (hl : l.Pairwise fun a b => a.1 < b.1)
    (h : ∀ e ∈ l, e.1 ≠ k) : (sparseInsert k v l).Pairwise fun a b => a.1 < b.1 := by
  induction l with
  | nil => simp [sparseInsert]
  | cons x t ih =>
    obtain ⟨k', v'⟩ := x
    have hx := List.pairwise_cons.mp hl
    have hk : k' ≠ k := h (k', v') (by simp)
    simp only [sparseInsert]
    split
    · rename_i hlt
      refine List.pairwise_cons.mpr ⟨fun e he => ?_, hl⟩
      rcases List.mem_cons.mp he with rfl | he
      · exact hlt
      · have := hx.1 e he; omega
    · refine List.pairwise_cons.mpr ⟨fun e he => ?_, ih hx.2 fun e he => h e (List.mem_cons_of_mem _ he)⟩
      rcases (mem_sparseInsert k v t e).mp he with rfl | he
      · show k' < k; omega
      · exact hx.1 e he

/-- A write keeps the canonical form. -/
theorem sparseWf_sparseSet [DecidableEq α] (dflt : α) (l : SparseTable α) (k : Nat) (v : α) (h : SparseWf dflt l) :
    SparseWf dflt (sparseSet dflt l k v) := by
  refine ⟨?_, fun e he => ?_⟩
  · unfold sparseSet
    by_cases hv : v = dflt
    · simp only [hv, if_true]; exact h.1.filter _
    · simp only [hv, if_false]; exact sorted_sparseInsert k v _ (h.1.filter _) (by simp)
  · rcases (mem_sparseSet dflt l k v e).mp he with ⟨rfl, hv⟩ | ⟨he, _⟩
    · exact hv
    · exact h.2 e he

/-- What a table lists after every entry is changed. -/
theorem mem_sparseMap [DecidableEq α] (dflt : α) (f : Nat → α → α) (l : SparseTable α) (e : Nat × α) :
    e ∈ sparseMap dflt f l ↔ ∃ v, (e.1, v) ∈ l ∧ e.2 = f e.1 v ∧ f e.1 v ≠ dflt := by
  obtain ⟨k, w⟩ := e
  simp only [sparseMap, List.mem_filterMap, Prod.exists]
  constructor
  · rintro ⟨k', v, hm, he⟩
    split at he
    · cases he
    · cases he
      exact ⟨v, hm, rfl, by assumption⟩
  · rintro ⟨v, hm, rfl, hne⟩
    exact ⟨k, v, hm, by rw [if_neg hne]⟩

/-- A change of every entry keeps the canonical form. -/
theorem sparseWf_sparseMap [DecidableEq α] (dflt : α) (f : Nat → α → α) (l : SparseTable α) (h : SparseWf dflt l) :
    SparseWf dflt (sparseMap dflt f l) := by
  refine ⟨?_, fun e he => ?_⟩
  · refine List.Pairwise.filterMap _ (fun a b hab c hc d hd => ?_) h.1
    split at hc
    · simp at hc
    · split at hd
      · simp at hd
      · simp only [Option.some.injEq] at hc hd
        subst hc hd
        exact hab
  · obtain ⟨v, _, hv, hne⟩ := (mem_sparseMap dflt f l e).mp he
    rw [hv]; exact hne

/-- An entry of a canonical table is what its number reads as. -/
theorem sparseGet_of_mem (dflt : α) (l : SparseTable α) (h : SparseWf dflt l) (e : Nat × α) (he : e ∈ l) :
    sparseGet dflt l e.1 = e.2 := by
  induction l with
  | nil => cases he
  | cons x t ih =>
    obtain ⟨k', v'⟩ := x
    have hx := List.pairwise_cons.mp h.1
    simp only [sparseGet]
    rcases List.mem_cons.mp he with rfl | he
    · simp
    · have hlt : k' < e.1 := hx.1 e he
      rw [if_neg (by omega)]
      exact ih ⟨hx.2, fun e he => h.2 e (List.mem_cons_of_mem _ he)⟩ he

/-- A number that does not read as the default is listed. -/
theorem mem_of_sparseGet (dflt : α) (l : SparseTable α) (k : Nat) (h : sparseGet dflt l k ≠ dflt) :
    (k, sparseGet dflt l k) ∈ l := by
  induction l with
  | nil => exact absurd rfl h
  | cons x t ih =>
    obtain ⟨k', v'⟩ := x
    simp only [sparseGet] at h ⊢
    by_cases hk : k' = k
    · simp [hk]
    · simp only [hk, if_false] at h ⊢
      exact List.mem_cons_of_mem _ (ih h)

/-- The empty table is canonical. -/
theorem sparseWf_nil (dflt : α) : SparseWf dflt ([] : SparseTable α) := by simp [SparseWf]

end Sys2Proof.Machine
end

