-- ==== Sys2Proof/Laws/State.lean ====
section
/-! SUPPORT. One lemma per field per update of the state, each true by unfolding the update. -/
namespace Sys2Proof.Machine


/-! ### State.raise -/

@[simp] theorem State.raise_uplinks (s : State) (f : Byte) : (s.raise f).uplinks = s.uplinks := rfl
@[simp] theorem State.raise_scan (s : State) (f : Byte) : (s.raise f).scan = s.scan := rfl
@[simp] theorem State.raise_live (s : State) (f : Byte) : (s.raise f).live = s.live := rfl
@[simp] theorem State.raise_table (s : State) (f : Byte) : (s.raise f).table = s.table := rfl
@[simp] theorem State.raise_walk (s : State) (f : Byte) : (s.raise f).walk = s.walk := rfl
@[simp] theorem State.raise_lp0 (s : State) (f : Byte) : (s.raise f).lp0 = s.lp0 := rfl
@[simp] theorem State.raise_lp1 (s : State) (f : Byte) : (s.raise f).lp1 = s.lp1 := rfl
@[simp] theorem State.raise_settled (s : State) (f : Byte) : (s.raise f).settled = s.settled := rfl
@[simp] theorem State.raise_ackTimeout (s : State) (f : Byte) : (s.raise f).ackTimeout = s.ackTimeout := rfl
@[simp] theorem State.raise_porst (s : State) (f : Byte) : (s.raise f).porst = s.porst := rfl
@[simp] theorem State.raise_mrst (s : State) (f : Byte) : (s.raise f).mrst = s.mrst := rfl
@[simp] theorem State.raise_pending (s : State) (f : Byte) : (s.raise f).pending = s.pending := rfl
@[simp] theorem State.raise_link (s : State) (f : Byte) : (s.raise f).link = s.link := rfl
@[simp] theorem State.raise_flags (s : State) (f : Byte) : (s.raise f).mgmt.flags = s.mgmt.flags ||| f := rfl
@[simp] theorem State.raise_iface (s : State) (f : Byte) : (s.raise f).mgmt.iface = s.mgmt.iface := rfl
@[simp] theorem State.raise_resetOwed (s : State) (f : Byte) : (s.raise f).mgmt.resetOwed = s.mgmt.resetOwed := rfl
@[simp] theorem State.raise_dropped (s : State) (f : Byte) : (s.raise f).mgmt.dropped = s.mgmt.dropped := rfl
@[simp] theorem State.raise_barrierTimer (s : State) (f : Byte) : (s.raise f).mgmt.barrierTimer = s.mgmt.barrierTimer := rfl
@[simp] theorem State.raise_enables (s : State) (f : Byte) : (s.raise f).mgmt.enables = s.mgmt.enables := rfl
@[simp] theorem State.raise_walkVisits (s : State) (f : Byte) : (s.raise f).mgmt.walkVisits = s.mgmt.walkVisits := rfl
@[simp] theorem State.raise_droppedRequests (s : State) (f : Byte) : (s.raise f).mgmt.droppedRequests = s.mgmt.droppedRequests := rfl
@[simp] theorem State.raise_sdo (s : State) (f : Byte) : (s.raise f).mgmt.sdo = s.mgmt.sdo := rfl
@[simp] theorem State.raise_group (s : State) (f : Byte) (g : Nat) : (s.raise f).group g = s.group g := rfl

/-! ### State.raiseIf -/

theorem State.raiseIf_true (s : State) (f : Byte) : s.raiseIf true f = s.raise f := rfl
theorem State.raiseIf_false (s : State) (f : Byte) : s.raiseIf false f = s := rfl
@[simp] theorem State.raiseIf_uplinks (s : State) (c : Bool) (f : Byte) : (s.raiseIf c f).uplinks = s.uplinks := by cases c <;> rfl
@[simp] theorem State.raiseIf_scan (s : State) (c : Bool) (f : Byte) : (s.raiseIf c f).scan = s.scan := by cases c <;> rfl
@[simp] theorem State.raiseIf_live (s : State) (c : Bool) (f : Byte) : (s.raiseIf c f).live = s.live := by cases c <;> rfl
@[simp] theorem State.raiseIf_table (s : State) (c : Bool) (f : Byte) : (s.raiseIf c f).table = s.table := by cases c <;> rfl
@[simp] theorem State.raiseIf_walk (s : State) (c : Bool) (f : Byte) : (s.raiseIf c f).walk = s.walk := by cases c <;> rfl
@[simp] theorem State.raiseIf_lp0 (s : State) (c : Bool) (f : Byte) : (s.raiseIf c f).lp0 = s.lp0 := by cases c <;> rfl
@[simp] theorem State.raiseIf_lp1 (s : State) (c : Bool) (f : Byte) : (s.raiseIf c f).lp1 = s.lp1 := by cases c <;> rfl
@[simp] theorem State.raiseIf_settled (s : State) (c : Bool) (f : Byte) : (s.raiseIf c f).settled = s.settled := by cases c <;> rfl
@[simp] theorem State.raiseIf_ackTimeout (s : State) (c : Bool) (f : Byte) : (s.raiseIf c f).ackTimeout = s.ackTimeout := by cases c <;> rfl
@[simp] theorem State.raiseIf_porst (s : State) (c : Bool) (f : Byte) : (s.raiseIf c f).porst = s.porst := by cases c <;> rfl
@[simp] theorem State.raiseIf_mrst (s : State) (c : Bool) (f : Byte) : (s.raiseIf c f).mrst = s.mrst := by cases c <;> rfl
@[simp] theorem State.raiseIf_pending (s : State) (c : Bool) (f : Byte) : (s.raiseIf c f).pending = s.pending := by cases c <;> rfl
@[simp] theorem State.raiseIf_link (s : State) (c : Bool) (f : Byte) : (s.raiseIf c f).link = s.link := by cases c <;> rfl
@[simp] theorem State.raiseIf_iface (s : State) (c : Bool) (f : Byte) : (s.raiseIf c f).mgmt.iface = s.mgmt.iface := by
  cases c <;> rfl
@[simp] theorem State.raiseIf_resetOwed (s : State) (c : Bool) (f : Byte) : (s.raiseIf c f).mgmt.resetOwed = s.mgmt.resetOwed := by
  cases c <;> rfl
@[simp] theorem State.raiseIf_dropped (s : State) (c : Bool) (f : Byte) : (s.raiseIf c f).mgmt.dropped = s.mgmt.dropped := by
  cases c <;> rfl
@[simp] theorem State.raiseIf_barrierTimer (s : State) (c : Bool) (f : Byte) : (s.raiseIf c f).mgmt.barrierTimer = s.mgmt.barrierTimer := by
  cases c <;> rfl
@[simp] theorem State.raiseIf_flags (s : State) (c : Bool) (f : Byte) :
    (s.raiseIf c f).mgmt.flags = if c then s.mgmt.flags ||| f else s.mgmt.flags := by cases c <;> rfl
@[simp] theorem State.raiseIf_enables (s : State) (c : Bool) (f : Byte) : (s.raiseIf c f).mgmt.enables = s.mgmt.enables := by
  cases c <;> rfl
@[simp] theorem State.raiseIf_walkVisits (s : State) (c : Bool) (f : Byte) : (s.raiseIf c f).mgmt.walkVisits = s.mgmt.walkVisits := by
  cases c <;> rfl
@[simp] theorem State.raiseIf_droppedRequests (s : State) (c : Bool) (f : Byte) : (s.raiseIf c f).mgmt.droppedRequests = s.mgmt.droppedRequests := by
  cases c <;> rfl
@[simp] theorem State.raiseIf_sdo (s : State) (c : Bool) (f : Byte) : (s.raiseIf c f).mgmt.sdo = s.mgmt.sdo := by
  cases c <;> rfl

/-! ### Pins of the scan -/

theorem State.scanLoad_congr {s t : State} (h : t.scan = s.scan) : t.scanLoad = s.scanLoad := by simp [State.scanLoad, h]
theorem State.scanClk_congr {s t : State} (h : t.scan = s.scan) : t.scanClk = s.scanClk := by simp [State.scanClk, h]
@[simp] theorem loadLevel_loadPulse : levelAfter .loadRise .loadFall loadPulse = false := rfl
@[simp] theorem clkLevel_loadPulse : levelAfter .clkRise .clkFall loadPulse = false := rfl
@[simp] theorem loadLevel_frameEdges : levelAfter .loadRise .loadFall frameEdges = false := by decide
@[simp] theorem clkLevel_frameEdges : levelAfter .clkRise .clkFall frameEdges = false := by decide

/-! ### Ports -/

@[simp] theorem State.port_lp0 (s : State) : s.port .lp0 = s.lp0 := rfl
@[simp] theorem State.port_lp1 (s : State) : s.port .lp1 = s.lp1 := rfl
@[simp] theorem State.port_setPort (s : State) (i : PortId) (p : Port) : (s.setPort i p).port i = p := by cases i <;> rfl
theorem State.port_setPort_ne (s : State) {i j : PortId} (p : Port) (h : i ≠ j) : (s.setPort i p).port j = s.port j := by
  cases i <;> cases j <;> first | rfl | exact absurd rfl h
@[simp] theorem State.setPort_lp0_lp0 (s : State) (p : Port) : (s.setPort .lp0 p).lp0 = p := rfl
@[simp] theorem State.setPort_lp0_lp1 (s : State) (p : Port) : (s.setPort .lp0 p).lp1 = s.lp1 := rfl
@[simp] theorem State.setPort_lp1_lp0 (s : State) (p : Port) : (s.setPort .lp1 p).lp0 = s.lp0 := rfl
@[simp] theorem State.setPort_lp1_lp1 (s : State) (p : Port) : (s.setPort .lp1 p).lp1 = p := rfl
@[simp] theorem State.setPort_uplinks (s : State) (i : PortId) (p : Port) : (s.setPort i p).uplinks = s.uplinks := by cases i <;> rfl
@[simp] theorem State.setPort_scan (s : State) (i : PortId) (p : Port) : (s.setPort i p).scan = s.scan := by cases i <;> rfl
@[simp] theorem State.setPort_live (s : State) (i : PortId) (p : Port) : (s.setPort i p).live = s.live := by cases i <;> rfl
@[simp] theorem State.setPort_table (s : State) (i : PortId) (p : Port) : (s.setPort i p).table = s.table := by cases i <;> rfl
@[simp] theorem State.setPort_walk (s : State) (i : PortId) (p : Port) : (s.setPort i p).walk = s.walk := by cases i <;> rfl
@[simp] theorem State.setPort_settled (s : State) (i : PortId) (p : Port) : (s.setPort i p).settled = s.settled := by cases i <;> rfl
@[simp] theorem State.setPort_ackTimeout (s : State) (i : PortId) (p : Port) : (s.setPort i p).ackTimeout = s.ackTimeout := by cases i <;> rfl
@[simp] theorem State.setPort_mgmt (s : State) (i : PortId) (p : Port) : (s.setPort i p).mgmt = s.mgmt := by cases i <;> rfl
@[simp] theorem State.setPort_porst (s : State) (i : PortId) (p : Port) : (s.setPort i p).porst = s.porst := by cases i <;> rfl
@[simp] theorem State.setPort_mrst (s : State) (i : PortId) (p : Port) : (s.setPort i p).mrst = s.mrst := by cases i <;> rfl
@[simp] theorem State.setPort_pending (s : State) (i : PortId) (p : Port) : (s.setPort i p).pending = s.pending := by cases i <;> rfl
@[simp] theorem State.setPort_link (s : State) (i : PortId) (p : Port) : (s.setPort i p).link = s.link := by cases i <;> rfl
@[simp] theorem State.setPort_group (s : State) (i : PortId) (p : Port) (g : Nat) : (s.setPort i p).group g = s.group g := by
  cases i <;> rfl

/-! ### Groups -/

@[simp] theorem State.setGroup_uplinks (s : State) (g : Nat) (r : Group) : (s.setGroup g r).uplinks = s.uplinks := rfl
@[simp] theorem State.setGroup_scan (s : State) (g : Nat) (r : Group) : (s.setGroup g r).scan = s.scan := rfl
@[simp] theorem State.setGroup_live (s : State) (g : Nat) (r : Group) : (s.setGroup g r).live = s.live := rfl
@[simp] theorem State.setGroup_walk (s : State) (g : Nat) (r : Group) : (s.setGroup g r).walk = s.walk := rfl
@[simp] theorem State.setGroup_lp0 (s : State) (g : Nat) (r : Group) : (s.setGroup g r).lp0 = s.lp0 := rfl
@[simp] theorem State.setGroup_lp1 (s : State) (g : Nat) (r : Group) : (s.setGroup g r).lp1 = s.lp1 := rfl
@[simp] theorem State.setGroup_settled (s : State) (g : Nat) (r : Group) : (s.setGroup g r).settled = s.settled := rfl
@[simp] theorem State.setGroup_ackTimeout (s : State) (g : Nat) (r : Group) : (s.setGroup g r).ackTimeout = s.ackTimeout := rfl
@[simp] theorem State.setGroup_mgmt (s : State) (g : Nat) (r : Group) : (s.setGroup g r).mgmt = s.mgmt := rfl
@[simp] theorem State.setGroup_porst (s : State) (g : Nat) (r : Group) : (s.setGroup g r).porst = s.porst := rfl
@[simp] theorem State.setGroup_mrst (s : State) (g : Nat) (r : Group) : (s.setGroup g r).mrst = s.mrst := rfl
@[simp] theorem State.setGroup_pending (s : State) (g : Nat) (r : Group) : (s.setGroup g r).pending = s.pending := rfl
@[simp] theorem State.setGroup_link (s : State) (g : Nat) (r : Group) : (s.setGroup g r).link = s.link := rfl
@[simp] theorem State.setGroup_chains (s : State) (g : Nat) (r : Group) : (s.setGroup g r).table.chains = s.table.chains := rfl
@[simp] theorem State.setGroup_freeLinks (s : State) (g : Nat) (r : Group) : (s.setGroup g r).table.freeLinks = s.table.freeLinks := rfl
@[simp] theorem State.setGroup_lastGranted (s : State) (g : Nat) (r : Group) : (s.setGroup g r).table.lastGranted = s.table.lastGranted := rfl
@[simp] theorem State.setGroup_ready (s : State) (g : Nat) (r : Group) : (s.setGroup g r).table.ready = s.table.ready := rfl

/-! ### Replies -/

@[simp] theorem formReply_uplinks (status : ReplyStatus) (payload : List Byte) (s : State) : (formReply status payload s).uplinks = s.uplinks := rfl
@[simp] theorem formReply_scan (status : ReplyStatus) (payload : List Byte) (s : State) : (formReply status payload s).scan = s.scan := rfl
@[simp] theorem formReply_live (status : ReplyStatus) (payload : List Byte) (s : State) : (formReply status payload s).live = s.live := rfl
@[simp] theorem formReply_table (status : ReplyStatus) (payload : List Byte) (s : State) : (formReply status payload s).table = s.table := rfl
@[simp] theorem formReply_walk (status : ReplyStatus) (payload : List Byte) (s : State) : (formReply status payload s).walk = s.walk := rfl
@[simp] theorem formReply_lp0 (status : ReplyStatus) (payload : List Byte) (s : State) : (formReply status payload s).lp0 = s.lp0 := rfl
@[simp] theorem formReply_lp1 (status : ReplyStatus) (payload : List Byte) (s : State) : (formReply status payload s).lp1 = s.lp1 := rfl
@[simp] theorem formReply_settled (status : ReplyStatus) (payload : List Byte) (s : State) : (formReply status payload s).settled = s.settled := rfl
@[simp] theorem formReply_ackTimeout (status : ReplyStatus) (payload : List Byte) (s : State) : (formReply status payload s).ackTimeout = s.ackTimeout := rfl
@[simp] theorem formReply_porst (status : ReplyStatus) (payload : List Byte) (s : State) : (formReply status payload s).porst = s.porst := rfl
@[simp] theorem formReply_mrst (status : ReplyStatus) (payload : List Byte) (s : State) : (formReply status payload s).mrst = s.mrst := rfl
@[simp] theorem formReply_pending (status : ReplyStatus) (payload : List Byte) (s : State) : (formReply status payload s).pending = s.pending := rfl
@[simp] theorem formReply_link (status : ReplyStatus) (payload : List Byte) (s : State) : (formReply status payload s).link = s.link := rfl
@[simp] theorem formReply_resetOwed (status : ReplyStatus) (payload : List Byte) (s : State) : (formReply status payload s).mgmt.resetOwed = s.mgmt.resetOwed := rfl
@[simp] theorem formReply_dropped (status : ReplyStatus) (payload : List Byte) (s : State) : (formReply status payload s).mgmt.dropped = s.mgmt.dropped := rfl
@[simp] theorem formReply_barrierTimer (status : ReplyStatus) (payload : List Byte) (s : State) : (formReply status payload s).mgmt.barrierTimer = s.mgmt.barrierTimer := rfl
@[simp] theorem formReply_flags (status : ReplyStatus) (payload : List Byte) (s : State) : (formReply status payload s).mgmt.flags = s.mgmt.flags := rfl
@[simp] theorem formReply_enables (status : ReplyStatus) (payload : List Byte) (s : State) : (formReply status payload s).mgmt.enables = s.mgmt.enables := rfl
@[simp] theorem formReply_walkVisits (status : ReplyStatus) (payload : List Byte) (s : State) : (formReply status payload s).mgmt.walkVisits = s.mgmt.walkVisits := rfl
@[simp] theorem formReply_droppedRequests (status : ReplyStatus) (payload : List Byte) (s : State) : (formReply status payload s).mgmt.droppedRequests = s.mgmt.droppedRequests := rfl
@[simp] theorem formReply_sdo (status : ReplyStatus) (payload : List Byte) (s : State) : (formReply status payload s).mgmt.sdo = s.mgmt.sdo := rfl
@[simp] theorem formReply_iface (status : ReplyStatus) (payload : List Byte) (s : State) :
    (formReply status payload s).mgmt.iface = .replyReady { status := status, payload := payload } := rfl
@[simp] theorem formReply_rdy (status : ReplyStatus) (payload : List Byte) (s : State) : (formReply status payload s).rdy = true := rfl

/-! ### Requests in progress -/

@[simp] theorem beginServing_uplinks (r : Request) (s : State) : (beginServing r s).uplinks = s.uplinks := rfl
@[simp] theorem beginServing_scan (r : Request) (s : State) : (beginServing r s).scan = s.scan := rfl
@[simp] theorem beginServing_live (r : Request) (s : State) : (beginServing r s).live = s.live := rfl
@[simp] theorem beginServing_table (r : Request) (s : State) : (beginServing r s).table = s.table := rfl
@[simp] theorem beginServing_walk (r : Request) (s : State) : (beginServing r s).walk = s.walk := rfl
@[simp] theorem beginServing_lp0 (r : Request) (s : State) : (beginServing r s).lp0 = s.lp0 := rfl
@[simp] theorem beginServing_lp1 (r : Request) (s : State) : (beginServing r s).lp1 = s.lp1 := rfl
@[simp] theorem beginServing_settled (r : Request) (s : State) : (beginServing r s).settled = s.settled := rfl
@[simp] theorem beginServing_ackTimeout (r : Request) (s : State) : (beginServing r s).ackTimeout = s.ackTimeout := rfl
@[simp] theorem beginServing_porst (r : Request) (s : State) : (beginServing r s).porst = s.porst := rfl
@[simp] theorem beginServing_mrst (r : Request) (s : State) : (beginServing r s).mrst = s.mrst := rfl
@[simp] theorem beginServing_pending (r : Request) (s : State) : (beginServing r s).pending = s.pending := rfl
@[simp] theorem beginServing_link (r : Request) (s : State) : (beginServing r s).link = s.link := rfl
@[simp] theorem beginServing_resetOwed (r : Request) (s : State) : (beginServing r s).mgmt.resetOwed = s.mgmt.resetOwed := rfl
@[simp] theorem beginServing_dropped (r : Request) (s : State) : (beginServing r s).mgmt.dropped = s.mgmt.dropped := rfl
@[simp] theorem beginServing_barrierTimer (r : Request) (s : State) : (beginServing r s).mgmt.barrierTimer = s.mgmt.barrierTimer := rfl
@[simp] theorem beginServing_flags (r : Request) (s : State) : (beginServing r s).mgmt.flags = s.mgmt.flags := rfl
@[simp] theorem beginServing_enables (r : Request) (s : State) : (beginServing r s).mgmt.enables = s.mgmt.enables := rfl
@[simp] theorem beginServing_walkVisits (r : Request) (s : State) : (beginServing r s).mgmt.walkVisits = s.mgmt.walkVisits := rfl
@[simp] theorem beginServing_droppedRequests (r : Request) (s : State) : (beginServing r s).mgmt.droppedRequests = s.mgmt.droppedRequests := rfl
@[simp] theorem beginServing_sdo (r : Request) (s : State) : (beginServing r s).mgmt.sdo = s.mgmt.sdo := rfl
@[simp] theorem beginServing_iface (r : Request) (s : State) : (beginServing r s).mgmt.iface = .serving r := rfl

/-! ### Dropped frames -/

@[simp] theorem dropFrame_uplinks (s : State) : (dropFrame s).uplinks = s.uplinks := rfl
@[simp] theorem dropFrame_scan (s : State) : (dropFrame s).scan = s.scan := rfl
@[simp] theorem dropFrame_live (s : State) : (dropFrame s).live = s.live := rfl
@[simp] theorem dropFrame_table (s : State) : (dropFrame s).table = s.table := rfl
@[simp] theorem dropFrame_walk (s : State) : (dropFrame s).walk = s.walk := rfl
@[simp] theorem dropFrame_lp0 (s : State) : (dropFrame s).lp0 = s.lp0 := rfl
@[simp] theorem dropFrame_lp1 (s : State) : (dropFrame s).lp1 = s.lp1 := rfl
@[simp] theorem dropFrame_settled (s : State) : (dropFrame s).settled = s.settled := rfl
@[simp] theorem dropFrame_ackTimeout (s : State) : (dropFrame s).ackTimeout = s.ackTimeout := rfl
@[simp] theorem dropFrame_porst (s : State) : (dropFrame s).porst = s.porst := rfl
@[simp] theorem dropFrame_mrst (s : State) : (dropFrame s).mrst = s.mrst := rfl
@[simp] theorem dropFrame_pending (s : State) : (dropFrame s).pending = s.pending := rfl
@[simp] theorem dropFrame_link (s : State) : (dropFrame s).link = s.link := rfl
@[simp] theorem dropFrame_iface (s : State) : (dropFrame s).mgmt.iface = s.mgmt.iface := rfl
@[simp] theorem dropFrame_resetOwed (s : State) : (dropFrame s).mgmt.resetOwed = s.mgmt.resetOwed := rfl
@[simp] theorem dropFrame_barrierTimer (s : State) : (dropFrame s).mgmt.barrierTimer = s.mgmt.barrierTimer := rfl
@[simp] theorem dropFrame_flags (s : State) : (dropFrame s).mgmt.flags = s.mgmt.flags := rfl
@[simp] theorem dropFrame_enables (s : State) : (dropFrame s).mgmt.enables = s.mgmt.enables := rfl
@[simp] theorem dropFrame_walkVisits (s : State) : (dropFrame s).mgmt.walkVisits = s.mgmt.walkVisits := rfl
@[simp] theorem dropFrame_sdo (s : State) : (dropFrame s).mgmt.sdo = s.mgmt.sdo := rfl
@[simp] theorem dropFrame_dropped (s : State) : (dropFrame s).mgmt.dropped = true := rfl
@[simp] theorem dropFrame_droppedRequests (s : State) :
    (dropFrame s).mgmt.droppedRequests = satInc s.mgmt.droppedRequests := rfl

/-! ### Visits counted -/

@[simp] theorem countVisit_uplinks (s : State) : (countVisit s).uplinks = s.uplinks := rfl
@[simp] theorem countVisit_scan (s : State) : (countVisit s).scan = s.scan := rfl
@[simp] theorem countVisit_live (s : State) : (countVisit s).live = s.live := rfl
@[simp] theorem countVisit_table (s : State) : (countVisit s).table = s.table := rfl
@[simp] theorem countVisit_walk (s : State) : (countVisit s).walk = s.walk := rfl
@[simp] theorem countVisit_lp0 (s : State) : (countVisit s).lp0 = s.lp0 := rfl
@[simp] theorem countVisit_lp1 (s : State) : (countVisit s).lp1 = s.lp1 := rfl
@[simp] theorem countVisit_settled (s : State) : (countVisit s).settled = s.settled := rfl
@[simp] theorem countVisit_ackTimeout (s : State) : (countVisit s).ackTimeout = s.ackTimeout := rfl
@[simp] theorem countVisit_porst (s : State) : (countVisit s).porst = s.porst := rfl
@[simp] theorem countVisit_mrst (s : State) : (countVisit s).mrst = s.mrst := rfl
@[simp] theorem countVisit_pending (s : State) : (countVisit s).pending = s.pending := rfl
@[simp] theorem countVisit_link (s : State) : (countVisit s).link = s.link := rfl
@[simp] theorem countVisit_iface (s : State) : (countVisit s).mgmt.iface = s.mgmt.iface := rfl
@[simp] theorem countVisit_resetOwed (s : State) : (countVisit s).mgmt.resetOwed = s.mgmt.resetOwed := rfl
@[simp] theorem countVisit_dropped (s : State) : (countVisit s).mgmt.dropped = s.mgmt.dropped := rfl
@[simp] theorem countVisit_barrierTimer (s : State) : (countVisit s).mgmt.barrierTimer = s.mgmt.barrierTimer := rfl
@[simp] theorem countVisit_flags (s : State) : (countVisit s).mgmt.flags = s.mgmt.flags := rfl
@[simp] theorem countVisit_enables (s : State) : (countVisit s).mgmt.enables = s.mgmt.enables := rfl
@[simp] theorem countVisit_droppedRequests (s : State) : (countVisit s).mgmt.droppedRequests = s.mgmt.droppedRequests := rfl
@[simp] theorem countVisit_sdo (s : State) : (countVisit s).mgmt.sdo = s.mgmt.sdo := rfl
@[simp] theorem countVisit_walkVisits (s : State) : (countVisit s).mgmt.walkVisits = satInc s.mgmt.walkVisits := rfl

/-! ### Barrier replies -/

@[simp] theorem barrierReply_uplinks (status : ReplyStatus) (b : BarrierTest) (s : State) : (barrierReply status b s).uplinks = s.uplinks := rfl
@[simp] theorem barrierReply_scan (status : ReplyStatus) (b : BarrierTest) (s : State) : (barrierReply status b s).scan = s.scan := rfl
@[simp] theorem barrierReply_live (status : ReplyStatus) (b : BarrierTest) (s : State) : (barrierReply status b s).live = s.live := rfl
@[simp] theorem barrierReply_table (status : ReplyStatus) (b : BarrierTest) (s : State) : (barrierReply status b s).table = s.table := rfl
@[simp] theorem barrierReply_walk (status : ReplyStatus) (b : BarrierTest) (s : State) : (barrierReply status b s).walk = s.walk := rfl
@[simp] theorem barrierReply_lp0 (status : ReplyStatus) (b : BarrierTest) (s : State) : (barrierReply status b s).lp0 = s.lp0 := rfl
@[simp] theorem barrierReply_lp1 (status : ReplyStatus) (b : BarrierTest) (s : State) : (barrierReply status b s).lp1 = s.lp1 := rfl
@[simp] theorem barrierReply_settled (status : ReplyStatus) (b : BarrierTest) (s : State) : (barrierReply status b s).settled = s.settled := rfl
@[simp] theorem barrierReply_ackTimeout (status : ReplyStatus) (b : BarrierTest) (s : State) : (barrierReply status b s).ackTimeout = s.ackTimeout := rfl
@[simp] theorem barrierReply_porst (status : ReplyStatus) (b : BarrierTest) (s : State) : (barrierReply status b s).porst = s.porst := rfl
@[simp] theorem barrierReply_mrst (status : ReplyStatus) (b : BarrierTest) (s : State) : (barrierReply status b s).mrst = s.mrst := rfl
@[simp] theorem barrierReply_pending (status : ReplyStatus) (b : BarrierTest) (s : State) : (barrierReply status b s).pending = s.pending := rfl
@[simp] theorem barrierReply_link (status : ReplyStatus) (b : BarrierTest) (s : State) : (barrierReply status b s).link = s.link := rfl
@[simp] theorem barrierReply_resetOwed (status : ReplyStatus) (b : BarrierTest) (s : State) : (barrierReply status b s).mgmt.resetOwed = s.mgmt.resetOwed := rfl
@[simp] theorem barrierReply_dropped (status : ReplyStatus) (b : BarrierTest) (s : State) : (barrierReply status b s).mgmt.dropped = s.mgmt.dropped := rfl
@[simp] theorem barrierReply_flags (status : ReplyStatus) (b : BarrierTest) (s : State) : (barrierReply status b s).mgmt.flags = s.mgmt.flags := rfl
@[simp] theorem barrierReply_enables (status : ReplyStatus) (b : BarrierTest) (s : State) : (barrierReply status b s).mgmt.enables = s.mgmt.enables := rfl
@[simp] theorem barrierReply_walkVisits (status : ReplyStatus) (b : BarrierTest) (s : State) : (barrierReply status b s).mgmt.walkVisits = s.mgmt.walkVisits := rfl
@[simp] theorem barrierReply_droppedRequests (status : ReplyStatus) (b : BarrierTest) (s : State) : (barrierReply status b s).mgmt.droppedRequests = s.mgmt.droppedRequests := rfl
@[simp] theorem barrierReply_sdo (status : ReplyStatus) (b : BarrierTest) (s : State) : (barrierReply status b s).mgmt.sdo = s.mgmt.sdo := rfl
@[simp] theorem barrierReply_barrierTimer (status : ReplyStatus) (b : BarrierTest) (s : State) :
    (barrierReply status b s).mgmt.barrierTimer = .stopped := rfl

/-! ### Barrier checks -/

@[simp] theorem barrierCheck_uplinks (s : State) : (barrierCheck s).uplinks = s.uplinks := by
  unfold barrierCheck; split <;> [split <;> rfl; rfl]
@[simp] theorem barrierCheck_scan (s : State) : (barrierCheck s).scan = s.scan := by
  unfold barrierCheck; split <;> [split <;> rfl; rfl]
@[simp] theorem barrierCheck_live (s : State) : (barrierCheck s).live = s.live := by
  unfold barrierCheck; split <;> [split <;> rfl; rfl]
@[simp] theorem barrierCheck_table (s : State) : (barrierCheck s).table = s.table := by
  unfold barrierCheck; split <;> [split <;> rfl; rfl]
@[simp] theorem barrierCheck_walk (s : State) : (barrierCheck s).walk = s.walk := by
  unfold barrierCheck; split <;> [split <;> rfl; rfl]
@[simp] theorem barrierCheck_lp0 (s : State) : (barrierCheck s).lp0 = s.lp0 := by
  unfold barrierCheck; split <;> [split <;> rfl; rfl]
@[simp] theorem barrierCheck_lp1 (s : State) : (barrierCheck s).lp1 = s.lp1 := by
  unfold barrierCheck; split <;> [split <;> rfl; rfl]
@[simp] theorem barrierCheck_settled (s : State) : (barrierCheck s).settled = s.settled := by
  unfold barrierCheck; split <;> [split <;> rfl; rfl]
@[simp] theorem barrierCheck_ackTimeout (s : State) : (barrierCheck s).ackTimeout = s.ackTimeout := by
  unfold barrierCheck; split <;> [split <;> rfl; rfl]
@[simp] theorem barrierCheck_porst (s : State) : (barrierCheck s).porst = s.porst := by
  unfold barrierCheck; split <;> [split <;> rfl; rfl]
@[simp] theorem barrierCheck_mrst (s : State) : (barrierCheck s).mrst = s.mrst := by
  unfold barrierCheck; split <;> [split <;> rfl; rfl]
@[simp] theorem barrierCheck_pending (s : State) : (barrierCheck s).pending = s.pending := by
  unfold barrierCheck; split <;> [split <;> rfl; rfl]
@[simp] theorem barrierCheck_link (s : State) : (barrierCheck s).link = s.link := by
  unfold barrierCheck; split <;> [split <;> rfl; rfl]

/-! ### A directory report -/

@[simp] theorem reportChange_uplinks (g : Nat) (n : Generation) (s : State) : (reportChange g n s).uplinks = s.uplinks := rfl
@[simp] theorem reportChange_scan (g : Nat) (n : Generation) (s : State) : (reportChange g n s).scan = s.scan := rfl
@[simp] theorem reportChange_live (g : Nat) (n : Generation) (s : State) : (reportChange g n s).live = s.live := rfl
@[simp] theorem reportChange_table (g : Nat) (n : Generation) (s : State) : (reportChange g n s).table = s.table := rfl
@[simp] theorem reportChange_walk (g : Nat) (n : Generation) (s : State) : (reportChange g n s).walk = s.walk := rfl
@[simp] theorem reportChange_settled (g : Nat) (n : Generation) (s : State) : (reportChange g n s).settled = s.settled := rfl
@[simp] theorem reportChange_ackTimeout (g : Nat) (n : Generation) (s : State) : (reportChange g n s).ackTimeout = s.ackTimeout := rfl
@[simp] theorem reportChange_mgmt (g : Nat) (n : Generation) (s : State) : (reportChange g n s).mgmt = s.mgmt := rfl
@[simp] theorem reportChange_porst (g : Nat) (n : Generation) (s : State) : (reportChange g n s).porst = s.porst := rfl
@[simp] theorem reportChange_mrst (g : Nat) (n : Generation) (s : State) : (reportChange g n s).mrst = s.mrst := rfl
@[simp] theorem reportChange_pending (g : Nat) (n : Generation) (s : State) : (reportChange g n s).pending = s.pending := rfl
@[simp] theorem reportChange_link (g : Nat) (n : Generation) (s : State) : (reportChange g n s).link = s.link := rfl
@[simp] theorem reportChange_group (g : Nat) (n : Generation) (s : State) (h : Nat) : (reportChange g n s).group h = s.group h := rfl

/-! ### Chains -/

@[simp] theorem relink_uplinks (g : Nat) (old new : UplinkSet) (s : State) : (relink g old new s).uplinks = s.uplinks := by
  unfold relink; rfl
@[simp] theorem relink_scan (g : Nat) (old new : UplinkSet) (s : State) : (relink g old new s).scan = s.scan := by
  unfold relink; rfl
@[simp] theorem relink_live (g : Nat) (old new : UplinkSet) (s : State) : (relink g old new s).live = s.live := by
  unfold relink; rfl
@[simp] theorem relink_lp0 (g : Nat) (old new : UplinkSet) (s : State) : (relink g old new s).lp0 = s.lp0 := by
  unfold relink; rfl
@[simp] theorem relink_lp1 (g : Nat) (old new : UplinkSet) (s : State) : (relink g old new s).lp1 = s.lp1 := by
  unfold relink; rfl
@[simp] theorem relink_settled (g : Nat) (old new : UplinkSet) (s : State) : (relink g old new s).settled = s.settled := by
  unfold relink; rfl
@[simp] theorem relink_ackTimeout (g : Nat) (old new : UplinkSet) (s : State) : (relink g old new s).ackTimeout = s.ackTimeout := by
  unfold relink; rfl
@[simp] theorem relink_mgmt (g : Nat) (old new : UplinkSet) (s : State) : (relink g old new s).mgmt = s.mgmt := by
  unfold relink; rfl
@[simp] theorem relink_porst (g : Nat) (old new : UplinkSet) (s : State) : (relink g old new s).porst = s.porst := by
  unfold relink; rfl
@[simp] theorem relink_mrst (g : Nat) (old new : UplinkSet) (s : State) : (relink g old new s).mrst = s.mrst := by
  unfold relink; rfl
@[simp] theorem relink_pending (g : Nat) (old new : UplinkSet) (s : State) : (relink g old new s).pending = s.pending := by
  unfold relink; rfl
@[simp] theorem relink_link (g : Nat) (old new : UplinkSet) (s : State) : (relink g old new s).link = s.link := by
  unfold relink; rfl
@[simp] theorem relink_groups (g : Nat) (old new : UplinkSet) (s : State) : (relink g old new s).table.groups = s.table.groups := by
  unfold relink; rfl
@[simp] theorem relink_group (g : Nat) (old new : UplinkSet) (s : State) (h : Nat) : (relink g old new s).group h = s.group h := by
  simp [State.group]
@[simp] theorem relink_ready (g : Nat) (old new : UplinkSet) (s : State) : (relink g old new s).table.ready = s.table.ready := by
  unfold relink; rfl
@[simp] theorem relink_lastGranted (g : Nat) (old new : UplinkSet) (s : State) :
    (relink g old new s).table.lastGranted = s.table.lastGranted := by unfold relink; rfl
@[simp] theorem relink_queue (g : Nat) (old new : UplinkSet) (s : State) : (relink g old new s).walk.queue = s.walk.queue := by
  unfold relink; rfl

/-! ### The walk queue -/

@[simp] theorem takeNextJob_uplinks (s : State) : (takeNextJob s).uplinks = s.uplinks := by
  simp [takeNextJob]
@[simp] theorem takeNextJob_scan (s : State) : (takeNextJob s).scan = s.scan := by
  simp [takeNextJob]
@[simp] theorem takeNextJob_live (s : State) : (takeNextJob s).live = s.live := by
  simp [takeNextJob]
@[simp] theorem takeNextJob_table (s : State) : (takeNextJob s).table = s.table := by
  simp [takeNextJob]
@[simp] theorem takeNextJob_lp0 (s : State) : (takeNextJob s).lp0 = s.lp0 := by
  simp [takeNextJob]
@[simp] theorem takeNextJob_lp1 (s : State) : (takeNextJob s).lp1 = s.lp1 := by
  simp [takeNextJob]
@[simp] theorem takeNextJob_settled (s : State) : (takeNextJob s).settled = s.settled := by
  simp [takeNextJob]
@[simp] theorem takeNextJob_ackTimeout (s : State) : (takeNextJob s).ackTimeout = s.ackTimeout := by
  simp [takeNextJob]
@[simp] theorem takeNextJob_porst (s : State) : (takeNextJob s).porst = s.porst := by
  simp [takeNextJob]
@[simp] theorem takeNextJob_mrst (s : State) : (takeNextJob s).mrst = s.mrst := by
  simp [takeNextJob]
@[simp] theorem takeNextJob_pending (s : State) : (takeNextJob s).pending = s.pending := by
  simp [takeNextJob]
@[simp] theorem takeNextJob_link (s : State) : (takeNextJob s).link = s.link := by
  simp [takeNextJob]

/-! ### The idle engine -/

@[simp] theorem startIfIdle_uplinks (s : State) : (startIfIdle s).uplinks = s.uplinks := by
  unfold startIfIdle; split <;> simp
@[simp] theorem startIfIdle_scan (s : State) : (startIfIdle s).scan = s.scan := by
  unfold startIfIdle; split <;> simp
@[simp] theorem startIfIdle_live (s : State) : (startIfIdle s).live = s.live := by
  unfold startIfIdle; split <;> simp
@[simp] theorem startIfIdle_table (s : State) : (startIfIdle s).table = s.table := by
  unfold startIfIdle; split <;> simp
@[simp] theorem startIfIdle_lp0 (s : State) : (startIfIdle s).lp0 = s.lp0 := by
  unfold startIfIdle; split <;> simp
@[simp] theorem startIfIdle_lp1 (s : State) : (startIfIdle s).lp1 = s.lp1 := by
  unfold startIfIdle; split <;> simp
@[simp] theorem startIfIdle_settled (s : State) : (startIfIdle s).settled = s.settled := by
  unfold startIfIdle; split <;> simp
@[simp] theorem startIfIdle_ackTimeout (s : State) : (startIfIdle s).ackTimeout = s.ackTimeout := by
  unfold startIfIdle; split <;> simp
@[simp] theorem startIfIdle_porst (s : State) : (startIfIdle s).porst = s.porst := by
  unfold startIfIdle; split <;> simp
@[simp] theorem startIfIdle_mrst (s : State) : (startIfIdle s).mrst = s.mrst := by
  unfold startIfIdle; split <;> simp
@[simp] theorem startIfIdle_pending (s : State) : (startIfIdle s).pending = s.pending := by
  unfold startIfIdle; split <;> simp
@[simp] theorem startIfIdle_link (s : State) : (startIfIdle s).link = s.link := by
  unfold startIfIdle; split <;> simp

/-! ### The settled set -/

@[simp] theorem resettle_uplinks (s : State) : (resettle s).uplinks = s.uplinks := by
  simp [resettle]
@[simp] theorem resettle_scan (s : State) : (resettle s).scan = s.scan := by
  simp [resettle]
@[simp] theorem resettle_live (s : State) : (resettle s).live = s.live := by
  simp [resettle]
@[simp] theorem resettle_table (s : State) : (resettle s).table = s.table := by
  simp [resettle]
@[simp] theorem resettle_lp0 (s : State) : (resettle s).lp0 = s.lp0 := by
  simp [resettle]
@[simp] theorem resettle_lp1 (s : State) : (resettle s).lp1 = s.lp1 := by
  simp [resettle]
@[simp] theorem resettle_ackTimeout (s : State) : (resettle s).ackTimeout = s.ackTimeout := by
  simp [resettle]
@[simp] theorem resettle_porst (s : State) : (resettle s).porst = s.porst := by
  simp [resettle]
@[simp] theorem resettle_mrst (s : State) : (resettle s).mrst = s.mrst := by
  simp [resettle]
@[simp] theorem resettle_pending (s : State) : (resettle s).pending = s.pending := by
  simp [resettle]
@[simp] theorem resettle_link (s : State) : (resettle s).link = s.link := by
  simp [resettle]
@[simp] theorem resettle_settled (s : State) : (resettle s).settled = settledOf s.live s.lp0 s.lp1 := by simp [resettle]

/-! ### A live-set report -/

@[simp] theorem reportLive_uplinks (live : UplinkSet) (s : State) : (reportLive live s).uplinks = s.uplinks := by
  unfold reportLive; split <;> simp
@[simp] theorem reportLive_scan (live : UplinkSet) (s : State) : (reportLive live s).scan = s.scan := by
  unfold reportLive; split <;> simp
@[simp] theorem reportLive_table (live : UplinkSet) (s : State) : (reportLive live s).table = s.table := by
  unfold reportLive; split <;> simp
@[simp] theorem reportLive_ackTimeout (live : UplinkSet) (s : State) : (reportLive live s).ackTimeout = s.ackTimeout := by
  unfold reportLive; split <;> simp
@[simp] theorem reportLive_porst (live : UplinkSet) (s : State) : (reportLive live s).porst = s.porst := by
  unfold reportLive; split <;> simp
@[simp] theorem reportLive_mrst (live : UplinkSet) (s : State) : (reportLive live s).mrst = s.mrst := by
  unfold reportLive; split <;> simp
@[simp] theorem reportLive_pending (live : UplinkSet) (s : State) : (reportLive live s).pending = s.pending := by
  unfold reportLive; split <;> simp
@[simp] theorem reportLive_link (live : UplinkSet) (s : State) : (reportLive live s).link = s.link := by
  unfold reportLive; split <;> simp
@[simp] theorem reportLive_live (live : UplinkSet) (s : State) : (reportLive live s).live = live := by
  unfold reportLive; split <;> simp_all

/-! ### A step of Uplink Watch -/

@[simp] theorem watchStep_scan (us : Vector Uplink 32) (s : State) : (watchStep us s).scan = s.scan := by
  simp [watchStep]
@[simp] theorem watchStep_table (us : Vector Uplink 32) (s : State) : (watchStep us s).table = s.table := by
  simp [watchStep]
@[simp] theorem watchStep_ackTimeout (us : Vector Uplink 32) (s : State) : (watchStep us s).ackTimeout = s.ackTimeout := by
  simp [watchStep]
@[simp] theorem watchStep_porst (us : Vector Uplink 32) (s : State) : (watchStep us s).porst = s.porst := by
  simp [watchStep]
@[simp] theorem watchStep_mrst (us : Vector Uplink 32) (s : State) : (watchStep us s).mrst = s.mrst := by
  simp [watchStep]
@[simp] theorem watchStep_pending (us : Vector Uplink 32) (s : State) : (watchStep us s).pending = s.pending := by
  simp [watchStep]
@[simp] theorem watchStep_link (us : Vector Uplink 32) (s : State) : (watchStep us s).link = s.link := by
  simp [watchStep]
@[simp] theorem watchStep_uplinks (us : Vector Uplink 32) (s : State) : (watchStep us s).uplinks = us := by simp [watchStep]
@[simp] theorem watchStep_live (us : Vector Uplink 32) (s : State) : (watchStep us s).live = liveOf us := by simp [watchStep]

/-! ### Completed retirements -/

@[simp] theorem completeGroup_uplinks (g : Nat) (s : State) : (completeGroup g s).uplinks = s.uplinks := by
  unfold completeGroup; split <;> simp
@[simp] theorem completeGroup_scan (g : Nat) (s : State) : (completeGroup g s).scan = s.scan := by
  unfold completeGroup; split <;> simp
@[simp] theorem completeGroup_live (g : Nat) (s : State) : (completeGroup g s).live = s.live := by
  unfold completeGroup; split <;> simp
@[simp] theorem completeGroup_walk (g : Nat) (s : State) : (completeGroup g s).walk = s.walk := by
  unfold completeGroup; split <;> simp
@[simp] theorem completeGroup_lp0 (g : Nat) (s : State) : (completeGroup g s).lp0 = s.lp0 := by
  unfold completeGroup; split <;> simp
@[simp] theorem completeGroup_lp1 (g : Nat) (s : State) : (completeGroup g s).lp1 = s.lp1 := by
  unfold completeGroup; split <;> simp
@[simp] theorem completeGroup_settled (g : Nat) (s : State) : (completeGroup g s).settled = s.settled := by
  unfold completeGroup; split <;> simp
@[simp] theorem completeGroup_ackTimeout (g : Nat) (s : State) : (completeGroup g s).ackTimeout = s.ackTimeout := by
  unfold completeGroup; split <;> simp
@[simp] theorem completeGroup_porst (g : Nat) (s : State) : (completeGroup g s).porst = s.porst := by
  unfold completeGroup; split <;> simp
@[simp] theorem completeGroup_mrst (g : Nat) (s : State) : (completeGroup g s).mrst = s.mrst := by
  unfold completeGroup; split <;> simp
@[simp] theorem completeGroup_pending (g : Nat) (s : State) : (completeGroup g s).pending = s.pending := by
  unfold completeGroup; split <;> simp
@[simp] theorem completeGroup_link (g : Nat) (s : State) : (completeGroup g s).link = s.link := by
  unfold completeGroup; split <;> simp

/-! ### Completed retirements, all at once -/

@[simp] theorem completeAll_uplinks (s : State) : (completeAll s).uplinks = s.uplinks := by
  simp [completeAll]
@[simp] theorem completeAll_scan (s : State) : (completeAll s).scan = s.scan := by
  simp [completeAll]
@[simp] theorem completeAll_live (s : State) : (completeAll s).live = s.live := by
  simp [completeAll]
@[simp] theorem completeAll_walk (s : State) : (completeAll s).walk = s.walk := by
  simp [completeAll]
@[simp] theorem completeAll_lp0 (s : State) : (completeAll s).lp0 = s.lp0 := by
  simp [completeAll]
@[simp] theorem completeAll_lp1 (s : State) : (completeAll s).lp1 = s.lp1 := by
  simp [completeAll]
@[simp] theorem completeAll_settled (s : State) : (completeAll s).settled = s.settled := by
  simp [completeAll]
@[simp] theorem completeAll_ackTimeout (s : State) : (completeAll s).ackTimeout = s.ackTimeout := by
  simp [completeAll]
@[simp] theorem completeAll_porst (s : State) : (completeAll s).porst = s.porst := by
  simp [completeAll]
@[simp] theorem completeAll_mrst (s : State) : (completeAll s).mrst = s.mrst := by
  simp [completeAll]
@[simp] theorem completeAll_pending (s : State) : (completeAll s).pending = s.pending := by
  simp [completeAll]
@[simp] theorem completeAll_link (s : State) : (completeAll s).link = s.link := by
  simp [completeAll]

/-! ### Persisted maps -/

@[simp] theorem persist_uplinks (g : Nat) (map : BucketMap) (s : State) : (persist g map s).uplinks = s.uplinks := by
  simp only [persist]; split <;> simp
@[simp] theorem persist_scan (g : Nat) (map : BucketMap) (s : State) : (persist g map s).scan = s.scan := by
  simp only [persist]; split <;> simp
@[simp] theorem persist_live (g : Nat) (map : BucketMap) (s : State) : (persist g map s).live = s.live := by
  simp only [persist]; split <;> simp
@[simp] theorem persist_walk (g : Nat) (map : BucketMap) (s : State) : (persist g map s).walk = s.walk := by
  simp only [persist]; split <;> simp
@[simp] theorem persist_settled (g : Nat) (map : BucketMap) (s : State) : (persist g map s).settled = s.settled := by
  simp only [persist]; split <;> simp
@[simp] theorem persist_ackTimeout (g : Nat) (map : BucketMap) (s : State) : (persist g map s).ackTimeout = s.ackTimeout := by
  simp only [persist]; split <;> simp
@[simp] theorem persist_mgmt (g : Nat) (map : BucketMap) (s : State) : (persist g map s).mgmt = s.mgmt := by
  simp only [persist]; split <;> simp
@[simp] theorem persist_porst (g : Nat) (map : BucketMap) (s : State) : (persist g map s).porst = s.porst := by
  simp only [persist]; split <;> simp
@[simp] theorem persist_mrst (g : Nat) (map : BucketMap) (s : State) : (persist g map s).mrst = s.mrst := by
  simp only [persist]; split <;> simp
@[simp] theorem persist_pending (g : Nat) (map : BucketMap) (s : State) : (persist g map s).pending = s.pending := by
  simp only [persist]; split <;> simp
@[simp] theorem persist_link (g : Nat) (map : BucketMap) (s : State) : (persist g map s).link = s.link := by
  simp only [persist]; split <;> simp

end Sys2Proof.Machine
end

