-- ==== Sys2Proof/Laws/Ops.lean ====
section
/-! SUPPORT. One lemma for each shared operation that says what it can do, and the small facts about the values it uses. -/
namespace Sys2Proof.Machine

/-! ### Groups and generations -/

/-- A read of a group after a write. -/
theorem State.group_setGroup (s : State) (g : Nat) (r : Group) (h : Nat) :
    (s.setGroup g r).group h = if h = g then r else s.group h := sparseGet_sparseSet _ _ _ _ _

@[simp] theorem State.group_setGroup_same (s : State) (g : Nat) (r : Group) : (s.setGroup g r).group g = r := by
  simp [State.group_setGroup]

theorem State.group_setGroup_other (s : State) (r : Group) {g h : Nat} (hne : h ≠ g) :
    (s.setGroup g r).group h = s.group h := by simp [State.group_setGroup, hne]

/-- A group write keeps the canonical form of the records. -/
theorem State.setGroup_wf (s : State) (g : Nat) (r : Group) (h : SparseWf Group.reset s.table.groups) :
    SparseWf Group.reset (s.setGroup g r).table.groups := sparseWf_sparseSet _ _ _ _ h

/-- A listed record is what its number reads as. -/
theorem State.group_of_mem (s : State) (h : SparseWf Group.reset s.table.groups) {e : Nat × Group} (he : e ∈ s.table.groups) :
    s.group e.1 = e.2 := sparseGet_of_mem _ _ h e he

/-- A group that is not FREE at generation 0 is listed. -/
theorem State.mem_of_group (s : State) (g : Nat) (h : s.group g ≠ Group.reset) : (g, s.group g) ∈ s.table.groups :=
  mem_of_sparseGet _ _ _ h

theorem nextGen_ne_zero (n : Generation) : nextGen n ≠ 0#32 := by
  unfold nextGen; split
  · decide
  · rename_i h
    have hall : BitVec.allOnes 32 = 4294967295#32 := by decide
    rw [hall] at h
    bv_omega

theorem nextGen_ne (n : Generation) : nextGen n ≠ n := by
  unfold nextGen; split
  · rename_i h; rw [h]; decide
  · intro h0
    have : (1#32 : BitVec 32) = 0#32 := by bv_omega
    exact absurd this (by decide)

/-! ### Counters -/

/-- A counter never falls. -/
theorem le_satInc {w : Nat} (c : BitVec w) : c.toNat ≤ (satInc c).toNat := by
  unfold satInc; split
  · exact Nat.le_refl _
  · rename_i h
    have hc : c.toNat ≠ 2 ^ w - 1 := fun h' => h (BitVec.eq_of_toNat_eq (by simpa using h'))
    have hlt := c.isLt
    rw [BitVec.toNat_add, BitVec.toNat_ofNat]
    rcases Nat.eq_zero_or_pos w with rfl | hw
    · omega
    · have h1 : 1 % 2 ^ w = 1 := Nat.mod_eq_of_lt (Nat.one_lt_two_pow (by omega))
      rw [h1, Nat.mod_eq_of_lt (by omega)]; omega

/-! ### The reset pin, frames and accesses -/

/-- Outside a reset the meaning acts; in it nothing changes. -/
theorem unlessReset_eq (s : State) (f : State → State) :
    (s.porst = false ∧ unlessReset s f = .next (f s)) ∨ (s.porst = true ∧ unlessReset s f = .next s) := by
  cases h : s.porst <;> simp [unlessReset, h]

/-- Every outcome of `unlessReset` is a next state. -/
theorem unlessReset_next {s t : State} {f : State → State} (h : unlessReset s f = .next t) :
    (s.porst = true ∧ t = s) ∨ (s.porst = false ∧ t = f s) := by
  rcases unlessReset_eq s f with ⟨hp, he⟩ | ⟨hp, he⟩ <;> rw [he] at h <;> cases h <;> simp [hp]

/-- What becomes of a request frame: discarded unseen, served, or dropped. -/
theorem judgeFrame_cases (n : Nat) (serve : State → State) (s : State) :
    (s.mrst = true ∧ judgeFrame n serve s = s) ∨
    (s.mrst = false ∧ s.mgmt.iface = .idle ∧
      judgeFrame n serve s = serve { s with mgmt := { s.mgmt with sdo := List.replicate (n + 1) Config.fill } }) ∨
    (s.mrst = false ∧ s.mgmt.iface ≠ .idle ∧
      judgeFrame n serve s = dropFrame { s with mgmt := { s.mgmt with sdo := List.replicate (n + 1) Config.fill } }) := by
  cases hm : s.mrst
  · cases hi : s.mgmt.iface <;> simp [judgeFrame, hm, hi]
  · simp [judgeFrame, hm]

/-- A frame judged IDLE outside a management reset. -/
theorem judgeFrame_idle {s : State} (n : Nat) (serve : State → State) (hm : s.mrst = false) (hi : s.mgmt.iface = .idle) :
    judgeFrame n serve s = serve { s with mgmt := { s.mgmt with sdo := List.replicate (n + 1) Config.fill } } := by
  simp [judgeFrame, hm, hi]

/-- A well-formed request frame judged IDLE is served. -/
theorem takeRequest_served {α : Type} {dec : List Byte → Option α} {rest : List Byte} {a : α} {s : State}
    (serve : α → State → State) (hm : s.mrst = false) (hi : s.mgmt.iface = .idle)
    (hd : (payloadOf rest).bind dec = some a) :
    takeRequest dec rest serve s = serve a { s with mgmt := { s.mgmt with sdo := List.replicate (rest.length + 1) Config.fill } } := by
  rw [takeRequest, judgeFrame_idle _ _ hm hi, hd]

/-- A malformed request frame judged IDLE is answered BAD_REQUEST. -/
theorem takeRequest_malformed {α : Type} {dec : List Byte → Option α} {rest : List Byte} {s : State}
    (serve : α → State → State) (hm : s.mrst = false) (hi : s.mgmt.iface = .idle)
    (hd : (payloadOf rest).bind dec = none) :
    takeRequest dec rest serve s =
      formReply .badRequest [] { s with mgmt := { s.mgmt with sdo := List.replicate (rest.length + 1) Config.fill } } := by
  rw [takeRequest, judgeFrame_idle _ _ hm hi, hd]

/-- A message occupies its lane for its byte count plus two delimiters (R168). -/
@[simp] theorem messageChars_length (m : LaneMessage) : (messageChars m).length = (messageBytes m).length + 2 := by
  simp [messageChars]

/-- An access takes place, or nothing changes. -/
theorem access_cases (q : Requester) (f : State → State) (s : State) :
    (s.grantee = some q ∧ access q f s = f { s with table := { s.table with lastGranted := q } }) ∨
    (s.grantee ≠ some q ∧ access q f s = s) := by
  by_cases h : s.grantee = some q <;> simp [access, h]

/-- The arbiter grants only in READY, and only a requester that waits. -/
theorem grantee_waits {s : State} {q : Requester} (h : s.grantee = some q) : s.table.ready = true ∧ s.waits q = true := by
  unfold State.grantee at h
  split at h
  · exact ⟨by assumption, List.find?_some h⟩
  · cases h

/-! ### The walk queue -/

/-- The job taken is an uplink job at the head of its chain or a sweep job at its first group; what is left is the tail of the queue
behind it. Uplink jobs whose chains are empty have ended. -/
theorem startFrom_cases (chains : Vector (List Nat) 32) (q : List WaitingJob) :
    ((∃ u g, (startFrom chains q).1 = some (.uplink u (some g)) ∧ chains[u].head? = some g) ∨
      (∃ f c, (startFrom chains q).1 = some (.sweep f c f) ∧ .sweep f c ∈ q) ∨
      ((startFrom chains q).1 = none ∧ (startFrom chains q).2 = [])) ∧
    (startFrom chains q).2 <:+ q := by
  induction q with
  | nil => simp [startFrom]
  | cons j q ih =>
    cases j with
    | sweep f c => simp [startFrom]
    | uplink u =>
      simp only [startFrom]
      split
      · refine ⟨?_, ih.2.trans (List.suffix_cons _ _)⟩
        rcases ih.1 with h | ⟨f, c, h, hm⟩ | h
        · exact .inl h
        · exact .inr (.inl ⟨f, c, h, List.mem_cons_of_mem _ hm⟩)
        · exact .inr (.inr h)
      · rename_i g hg
        exact ⟨.inl ⟨u, g, rfl, hg⟩, List.suffix_cons _ _⟩

/-- The engine's job and queue after it takes a job. -/
@[simp] theorem takeNextJob_walk (s : State) :
    (takeNextJob s).walk =
      { queue := (startFrom s.table.chains s.walk.queue).2, job := (startFrom s.table.chains s.walk.queue).1 } := by
  simp [takeNextJob]

/-- A check of the waiting Barrier ends it with its reply, or changes nothing. -/
theorem barrierCheck_cases (s : State) :
    (∃ b, s.mgmt.iface = .serving (.barrier b) ∧ barrierHolds b s = true ∧ barrierCheck s = barrierReply .ok b s) ∨
    ((∀ b, s.mgmt.iface = .serving (.barrier b) → barrierHolds b s = false) ∧ barrierCheck s = s) := by
  unfold barrierCheck
  split
  · rename_i b hb
    cases hh : barrierHolds b s
    · refine .inr ⟨fun b' hb' => ?_, by simp⟩
      rw [hb] at hb'; cases hb'; exact hh
    · exact .inl ⟨b, hb, hh, by simp⟩
  · rename_i hb
    exact .inr ⟨fun b hb' => absurd hb' (hb b), rfl⟩

/-! ### The settled set and live-set reports -/

/-- An idle engine takes a job when one waits. -/
theorem startIfIdle_cases (s : State) :
    (s.walk.job = none ∧ s.walk.queue ≠ [] ∧ startIfIdle s = takeNextJob s) ∨
    ((s.walk.job ≠ none ∨ s.walk.queue = []) ∧ startIfIdle s = s) := by
  unfold startIfIdle
  cases hj : s.walk.job <;> cases hq : s.walk.queue <;> simp

/-- A report of an unchanged live set does nothing. -/
theorem reportLive_same (s : State) : reportLive s.live s = s := by simp [reportLive]

/-! ### Directory and retract list -/

/-- A sent retract keeps every field but the list, the transmit order, the ack timer and the counters. -/
theorem Port.sendRetract_cases (timeout : Byte) (p : Port) :
    (∃ e, p.retracts.find? (·.mark == .waiting) = some e ∧ sentCount p.retracts < Config.maxSent ∧
      p.sendRetract timeout = Port.startAckTimer timeout
        { p with retracts := markOldest p.retracts, transmit := p.transmit ++ [.retract e.group e.gen],
                 counters := { p.counters with retractsSent := satInc p.counters.retractsSent } }) ∨
    (((∀ e ∈ p.retracts, e.mark = .sent) ∨ Config.maxSent ≤ sentCount p.retracts) ∧ p.sendRetract timeout = p) := by
  unfold Port.sendRetract
  split
  · rename_i h
    refine .inr ⟨.inl fun e he => ?_, rfl⟩
    have hw := List.find?_eq_none.mp h e he
    cases hm : e.mark <;> simp_all
  · rename_i e h
    split
    · exact .inl ⟨e, h, by assumption, rfl⟩
    · exact .inr ⟨.inr (by omega), rfl⟩

/-- Starting the ack timer changes only the timer. -/
theorem Port.startAckTimer_eq (timeout : Byte) (p : Port) :
    p.startAckTimer timeout = { p with ackTimer := (p.startAckTimer timeout).ackTimer } := by
  unfold Port.startAckTimer; split <;> rfl

/-- The ack timer runs once it has been started. -/
theorem Port.startAckTimer_runs (timeout : Byte) (p : Port) : (p.startAckTimer timeout).ackTimer ≠ .stopped := by
  unfold Port.startAckTimer; split
  · simp
  · rename_i h; simp [h]

/-! ### Retirements and persisted maps -/

/-- A RETIRING group that no entry names completes; otherwise nothing changes. -/
theorem completeGroup_cases (g : Nat) (s : State) :
    ((s.group g).state = .retiring ∧ s.named g = false ∧
      completeGroup g s = (s.setGroup g (s.group g).completed).raise flagRetired) ∨
    (((s.group g).state ≠ .retiring ∨ s.named g = true) ∧ completeGroup g s = s) := by
  unfold completeGroup
  cases hs : (s.group g).state <;> cases hn : s.named g <;> simp

/-- A visit that finds another map writes it under the next generation and reports the change; an equal map writes nothing. -/
theorem persist_cases (g : Nat) (map : BucketMap) (s : State) :
    (map = (s.group g).map ∧ persist g map s = s) ∨
    (map ≠ (s.group g).map ∧
      persist g map s = reportChange g (nextGen (s.group g).gen)
        (s.setGroup g { s.group g with map := map, gen := nextGen (s.group g).gen })) := by
  unfold persist
  by_cases h : map = (s.group g).map <;> simp [h]

/-! ### Sets of uplinks -/

@[simp] theorem getLsbD_liveOf (us : Vector Uplink 32) (u : Fin 32) : (liveOf us).getLsbD u.val = us[u].state.isLive := by
  simp [liveOf]

@[simp] theorem getLsbD_related (ms : List Member) (u : Fin 32) :
    (related ms).getLsbD u.val = ms.any fun m => m.uplink == u || m.terms.any fun t => t.watched == u := by
  simp [related]

@[simp] theorem getLsbD_only (u v : Fin 32) : (only u).getLsbD v.val = (v == u) := by
  simp [only]

end Sys2Proof.Machine
end

