-- ==== Sys2Proof/Tests/Slice0.lean ====
section
/-! SUPPORT. Tests: the WellFormed smoke, bytes written out from the rules, worked examples of the manual, and for each statement of
Obligations.lean with hypotheses a state that meets them (`witness_…`). Expected values are the manual's, or worked by hand from it. -/
namespace Sys2Proof.Tests
-- One theorem at a time: many at once wait for the kernel, each on a thread of its own.
set_option Elab.async false
open Sys2Proof.Machine Sys2Proof.Safety Sys2Proof.Claims

/-! ### Small states -/

/-- The state after a command. -/
def after (c : Instr) (s : State) : State :=
  match exec c s with
  | .next t => t
  | _ => s

/-- The device READY after the init sweep, nothing else changed since reset. -/
def ready : State := { State.reset with table := { Table.reset with ready := true } }

/-- READY with uplink 9's record. -/
def nine (v : Uplink) : State := { ready with uplinks := ready.uplinks.set 9 v }

/-- An uplink record in a state with a d. -/
def inState (st : UplinkState) (d : Bool) : Uplink := { Uplink.reset with state := st, d := d, line := d }

/-- A member without terms. -/
def member (u : Fin 32) (r : Role) (w : Fin 16) : Member := { uplink := u, role := r, weight := w, terms := [] }

/-- A group of one member on uplink 0, in a state, at generation 1. -/
def group5 (st : GroupState) : Group :=
  { state := st, gen := 1#32, mode := .revert, floor := 1, members := [member 0 .primary 1], map := List.replicate 64 (some 0) }

/-- READY with group 5 in a state, alone in the table. -/
def holding (st : GroupState) : State :=
  { ready with table := { ready.table with
      groups := [(5, group5 st)], chains := if st = .active then ready.table.chains.set 0 [5] else ready.table.chains
      freeLinks := if st = .active then 98303 else 98304 } }

/-- A port in a state with its lane locked. -/
def portIn (st : PortState) : Port := { Port.reset with state := st, locked := true }

/-- LP0 with a record in READY. -/
def onLp0 (p : Port) : State := { ready with lp0 := p }

/-- An outstanding Down Vector that names uplink 1 alone, with its timer. -/
def waitingVector (p : Port) : Port :=
  { p with outstanding := some { sequence := 3#8, notLive := 2#32 }, ackTimer := .running 2000 }

/-! ### WellFormed: each check refuses a command whose bytes are not its row's -/

theorem test_wf_setAdminClear : (Instr.setAdminClear (encodeSetAdmin true 1#32)).wellFormed = false := by decide
theorem test_wf_setAdminSet : (Instr.setAdminSet (encodeSetAdmin false 1#32)).wellFormed = false := by decide
theorem test_wf_configureScanEnable : (Instr.configureScanEnable (encodeConfigureScan false 50#16)).wellFormed = false := by decide
theorem test_wf_configureScanDisable : (Instr.configureScanDisable (encodeConfigureScan true 50#16)).wellFormed = false := by decide
theorem test_wf_setEventEnablesSet : (Instr.setEventEnablesSet (encodeSetEnables false 1#8)).wellFormed = false := by decide
theorem test_wf_setEventEnablesClear : (Instr.setEventEnablesClear (encodeSetEnables true 1#8)).wellFormed = false := by decide
theorem test_wf_readCounters : (Instr.readCounters (encodeReadCounters true)).wellFormed = false := by decide
theorem test_wf_readCountersClear : (Instr.readCountersClear (encodeReadCounters false)).wellFormed = false := by decide
theorem test_wf_unknownRequestKind : (Instr.unknownRequestKind 0x20#8 []).wellFormed = false := by decide
theorem test_wf_requestDropped : (Instr.requestDropped [0xA5#8]).wellFormed = false := by decide
theorem test_wf_unknownKind : (Instr.unknownKind .lp0 [0x01#8, 0#8, 40#8]).wellFormed = false := by decide
theorem test_wf_wrongLengthMessage : (Instr.wrongLengthMessage .lp0 [0x03#8, 0#8]).wellFormed = false := by decide
theorem test_wf_malformed_is_of_the_row : (Instr.setAdminClear [0#8]).wellFormed = true := by decide

/-! ### Bytes -/

/-- 10_message_formats_and_pins.md, "Example: a Modify Group frame". -/
theorem test_frame_modify :
    frameInstr true [0x21#8, 0x00#8, 0x0F#8, 0x00#8, 0x28#8, 0#8, 0#8, 0#8, 1#8, 0#8, 2#8, 3#8, 0x07#8, 0x04#8, 0x03#8, 0x04#8,
      0x19#8, 0x02#8] =
    some (.modifyGroup (.frame (encodeModify
      { group := 40, expected := 1#32, mode := .revert, floor := 2#8,
        members := [member 7 .primary 4, member 3 .primary 4, member 25 .primary 2] }))) := by decide

/-- The same section: the member 19h 22h 23h watches uplink 3 with want OUT. -/
theorem test_member_with_term :
    takeMembers 1 [0x19#8, 0x22#8, 0x23#8] =
      some ([{ uplink := 25, role := .primary, weight := 2, terms := [{ watched := 3, want := .outSet }] }], []) := by decide

/-- 10_message_formats_and_pins.md, "Example: one transaction on LP0". -/
theorem test_lane_resolve : laneInstr .lp0 [0x01#8, 0x00#8, 0x28#8] = .resolve .lp0 40#16 := by decide
theorem test_lane_retractDone : laneInstr .lp0 [0x02#8, 0x00#8, 0x28#8] = .retractDone .lp0 40#16 := by decide
theorem test_lane_vectorAck : laneInstr .lp1 [0x03#8, 0xFF#8] = .vectorAck .lp1 255#8 := by decide
theorem test_lane_retract_bytes :
    messageBytes (.retract 40 3#32) = [0x82#8, 0x00#8, 0x28#8, 0x00#8, 0x00#8, 0x00#8, 0x03#8] := by decide
theorem test_lane_wrong_length : laneInstr .lp0 [0x01#8, 0#8] = .wrongLengthMessage .lp0 [0x01#8, 0#8] := by decide
theorem test_lane_unknown : laneInstr .lp0 [0x04#8] = .unknownKind .lp0 [0x04#8] := by decide

/-- R170: the read code makes a read frame; another lead byte a request frame. -/
theorem test_frame_read : frameInstr false [0xA5#8, 0#8, 0#8] = some (.readFrame 2) := by decide
theorem test_frame_dropped : frameInstr false [0x01#8, 0#8, 0#8] = some (.requestDropped [0x01#8, 0#8, 0#8]) := by decide
theorem test_frame_reset : frameInstr true [0x5A#8, 0#8, 0#8] = some (.fullResetRequest [0#8, 0#8]) := by decide

/-- R171: the option byte 52h is flap_limit 5 with degraded_is_dark; bits 2 and 3 are reserved. -/
theorem test_option_byte :
    (decodeConfigureUplink [0x09#8, 0x52#8, 5#8, 0x07#8, 0xD0#8, 10#8, 0#8, 60#8]).map
      (fun f => (f.1, f.2.flapLimit, f.2.restoreTime, f.2.degradedIsDark, f.2.lineEnable)) =
      some (9, 5#4, 2000#16, true, false) := by decide
theorem test_option_byte_reserved : decodeConfigureUplink [0x09#8, 0x54#8, 5#8, 7#8, 0xD0#8, 10#8, 0#8, 60#8] = none := by decide

/-- R173: bits 1 to 4 are the marker; bits 5 and 6 are uplink 0's code, high bit first; bits 67 and 68 uplink 31's. -/
theorem test_scan_bits :
    scanMarker 0x6C000000000000001#68 = 0b0110#4 ∧ codeAt 0x6C000000000000001#68 0 = .degraded ∧
      scanCodeBits 0x6C000000000000001#68 31 = 0b01#2 := by decide

/-- This many idle characters, and after them these. -/
def idlesThen (n : Nat) (cs : List LaneChar) : List LaneChar := List.replicate n .idle ++ cs

/-- R168: 32 idle characters gain lock; an undecodable character inside a message makes it shorter by one byte. -/
theorem test_receiver :
    receiveAll .lp0 LaneReceiver.start (idlesThen 32
      [.opening, .data 0x01#8, .data 0#8, .data 40#8, .closing, .opening, .data 0x01#8, .undecodable, .data 40#8, .idle]) =
    [.laneLockGained .lp0, .resolve .lp0 40#16, .wrongLengthMessage .lp0 [0x01#8, 40#8]] := by decide +kernel

/-! ### Uplink Watch -/

/-- 01_uplink_watch.md, "Example: a dirty connector": the configuration of uplink 9. -/
def dirty : Uplink := { Uplink.reset with state := .lit, config := { defaultConfig with flapLimit := 3#4 } }

/-- Its record after the line is asserted and deasserted twice, with the qualify expiry between. -/
def dirtyAt (steps : List (Uplink → Uplink)) : Uplink := steps.foldl (fun v f => f v) dirty

theorem test_dirty_first_onset :
    (dirtyAt [.setLine true]).state = .suspect ∧ (dirtyAt [.setLine true]).onset = 1 ∧
      (dirtyAt [.setLine true]).qualify = .running 50 ∧ (dirtyAt [.setLine true]).window = .running 10000000 := by decide
theorem test_dirty_confirmed :
    let v := dirtyAt [.setLine true, .setLine false, .setLine true, .qualifyExpired]
    v.state = .dark ∧ v.onset = 2 ∧ v.darkEntries = 1#16 := by decide
theorem test_dirty_damped :
    let v := dirtyAt [.setLine true, .setLine false, .setLine true, .qualifyExpired, .setLine false, .setLine true]
    v.state = .damped ∧ v.onset = 0 ∧ v.window = .stopped ∧ v.qualify = .running 60000000 ∧ v.dampEntries = 1#16 := by decide
theorem test_dirty_restored :
    let v := dirtyAt [.setLine true, .setLine false, .setLine true, .qualifyExpired, .setLine false, .setLine true,
      .setLine false, .holdExpired]
    v.state = .restoring ∧ v.qualify = .running 2000000 ∧ v.restoreExpired.state = .lit := by decide
theorem test_qualify_expiry_flags :
    (after (.qualifyTimerExpiry 9)
      (nine { dirty with state := .suspect, d := true, line := true, qualify := .running 50 })).mgmt.flags = 0x02#8 := by
  decide +kernel
theorem test_set_admin_joins_live :
    (after (.setAdminSet (encodeSetAdmin true 0x200#32))
      (nine { Uplink.reset with config := { defaultConfig with restoreTime := 0#16 } })).live = 0x200#32 := by decide +kernel
theorem test_configure_clamps :
    (after (.configureUplink (encodeConfigureUplink 9 { defaultConfig with flapWindow := 0#8, holdTime := 5000#16 })) ready).mgmt.iface =
      .replyReady { status := .ok, payload := [9#8, 0x51#8, 5#8, 0x07#8, 0xD0#8, 1#8, 0x0E#8, 0x10#8] } := by decide +kernel
theorem test_scan_stale :
    (after (.scanFrameJudged 0#68)
      { ready with scan := { State.reset.scan with state := .tracking, bad := 7, inFrame := true } }).scan.state = .stale := by
  decide +kernel
theorem test_scan_enable :
    (after (.configureScanEnable (encodeConfigureScan true 5#16)) ready).mgmt.iface =
      .replyReady { status := .ok, payload := [1#8, 0#8, 20#8] } := by decide +kernel

/-- R10: the line is asserted on a LIT uplink; R4: a frame starts; R5: a good frame with uplink 0's code LOCAL_FAULT ends STALE. -/
theorem test_line_asserted : (after (.filteredLineLevelChange 9 true) (nine dirty)).uplinks[9].state = .suspect := by decide +kernel
theorem test_scan_start :
    (let t := after .scanFrameStart { ready with scan := { State.reset.scan with state := .tracking } }
     t.scan.inFrame = true ∧ t.scan.driven = [.loadRise, .loadFall]) := by decide +kernel
theorem test_scan_good :
    (let t := after (.scanFrameJudged 0x64000000000000000#68)
      { ready with scan := { State.reset.scan with state := .stale, bad := 8, inFrame := true } }
     t.scan.state = .tracking ∧ t.scan.driven.count .clkRise = 68 ∧ t.uplinks[0].code = .localFault ∧ t.uplinks[0].d = true ∧ t.mgmt.flags = 0x04#8) := by decide +kernel

/-- R13, R14, R19: the three other timers. -/
theorem test_restore_expiry_joins_live :
    (after (.restoreTimerExpiry 9) (nine { dirty with state := .restoring, qualify := .running 2000000 })).live = 0x200#32 := by
  decide +kernel
theorem test_hold_expiry_dark :
    (after (.holdTimerExpiry 9)
      (nine { dirty with state := .damped, d := true, line := true, qualify := .running 9 })).uplinks[9].state = .dark := by
  decide +kernel
theorem test_window_expiry :
    (after (.windowTimerExpiry 9) (nine { dirty with onset := 2, window := .running 9 })).uplinks[9].onset = 0 := by decide +kernel

/-- R24, R171: the record of an uplink after a full reset: 51h is line_enable with flap_limit 5; 07D0h is 2000 ms. -/
theorem test_read_uplink :
    (after (.readUplink [0#8, 1#8, 3#8]) ready).mgmt.iface = .replyReady
      { status := .ok
        payload := [3#8, 0#8, 0x51#8, 5#8, 0x07#8, 0xD0#8, 10#8, 0#8, 60#8, 0#8, 0#8, 0#8, 0#8, 0#8, 0#8] } := by decide +kernel

/-! ### Placement -/

/-- 03_bucket_placement.md, section 3.4: eight primaries of weights 15, 15, 15, 15, 15, 10, 10, 1. -/
theorem test_quotas : quotas [15, 15, 15, 15, 15, 10, 10, 1] = [10, 10, 10, 10, 10, 7, 7, 0] := by decide

/-- Section 3.9: group 40. -/
def members40 : List Member := [member 3 .primary 4, member 7 .primary 4, member 12 .primary 2, member 20 .standby 3]

/-- Its settled sets: all four uplinks; without 7; without 7 and 3. -/
def all40 : UplinkSet := 0x00101088#32
def no7 : UplinkSet := 0x00101008#32
def no73 : UplinkSet := 0x00101000#32

def map40 : BucketMap := place .full members40 2 noneMap all40

/-- The buckets of a position. -/
def bucketsOf (m : BucketMap) (p : Nat) : List Nat := (List.range 64).filter fun b => m[b]? = some (some p)

theorem test_group40_install :
    bucketsOf map40 0 = [0, 1, 3, 5, 7, 9, 11, 13, 15, 17, 19, 21, 23, 25, 28, 31, 34, 37, 40, 43, 46, 49, 52, 55, 58, 61] ∧
      bucketsOf map40 2 = [27, 30, 33, 36, 39, 42, 45, 48, 51, 54, 57, 60, 63] ∧ (bucketsOf map40 1).length = 25 := by
  decide +kernel
theorem test_group40_without_7 :
    (let m := place .full members40 2 map40 no7
     (bucketsOf m 0).length = 43 ∧ (bucketsOf m 2).filter (fun b => (bucketsOf map40 1).contains b) = [22, 26, 32, 38, 44, 50, 56, 62]) := by
  decide +kernel
theorem test_group40_without_3 :
    (let m := place .full members40 2 (place .full members40 2 map40 no7) no73
     (bucketsOf m 2).length = 26 ∧ (bucketsOf m 3).length = 38 ∧ (bucketsOf m 3).drop 33 = [46, 49, 53, 58, 61]) := by
  decide +kernel
theorem test_group40_returns :
    (let m := place .full members40 2 map40 no7
     bucketsOf (place .full members40 2 m all40) 1 =
       [29, 31, 34, 35, 37, 40, 41, 43, 46, 47, 49, 50, 51, 52, 53, 54, 55, 56, 57, 58, 59, 60, 61, 62, 63]) := by decide +kernel

/-- 07, "Worked case: digest of groups 5 and 6". -/
theorem test_digest :
    (groupDigest 5 { Group.reset with members := [member 3 .primary 4, member 7 .standby 2] } = 17761031#32) ∧
      groupDigest 6 { Group.reset with
        mode := .hold, floor := 2
        members := [member 10 .primary 5, { member 11 .primary 5 with terms := [{ watched := 10, want := .outSet }] }] } =
        44368413#32 := by decide

/-! ### Walk Engine -/

/-- 04_reroute_walks.md, "Example: coalescing in the walk queue": a job for 7 runs, one for 3 and the sweep wait; uplinks 3 and 7 move. -/
theorem test_coalescing :
    queueJobs (only 3 ||| only 7) [.uplink 3, .sweep 0 256] = [.uplink 3, .sweep 0 256, .uplink 7] := by decide +kernel

/-- The same example: with the queue empty the next end sets WALK_IDLE. -/
theorem test_closing_access_goes_idle :
    (after .closingAccess { ready with walk := { queue := [], job := some (.uplink 7 none) } }).mgmt.flags = 0x20#8 := by
  decide +kernel

/-- R80, R82: the last visit of a sweep of a FREE group counts and sets SWEEP_DONE and WALK_IDLE. -/
theorem test_sweep_ends :
    (after .sweepVisit { ready with walk := { queue := [], job := some (.sweep 0 1 0) } }).mgmt.flags = 0x60#8 ∧
      (after .sweepVisit { ready with walk := { queue := [], job := some (.sweep 0 1 0) } }).mgmt.walkVisits = 1#32 := by
  decide +kernel

/-- R73: uplink 0 has left S; the visit writes the map of no member and raises the generation from 1 to 2. -/
theorem test_visit_persists :
    ((after .uplinkJobVisit { holding .active with walk := { queue := [], job := some (.uplink 0 (some 5)) } }).group 5).gen = 2#32 := by
  decide +kernel

/-- R40: the cursor at a group that leaves the chain moves to the group after it; at the chain's end it stays for the closing access. -/
theorem test_cursor_follows : editCursor 5 true false [4, 5, 6] (some 5) = some 6 ∧ editCursor 6 true false [4, 5, 6] (some 6) = none := by
  decide

/-- R152: a Barrier on uplink 7's job waits, and is answered at its end. -/
theorem test_barrier :
    (after .closingAccess
      { ready with
        walk := { queue := [], job := some (.uplink 7 none) }
        mgmt := { Mgmt.reset with
          iface := .serving (.barrier { uplinks := only 7, sweeps := false, retracts := false }), barrierTimer := .running 1000 } }).mgmt.iface =
      .replyReady { status := .ok, payload := [0#8, 0#8, 0#8, 0#8, 0#8] } := by decide +kernel

/-- R153: the expiry replies TIMEOUT with uplink 7 outstanding. -/
theorem test_barrier_timeout :
    (after .barrierTimerExpiry
      { ready with
        walk := { queue := [], job := some (.uplink 7 none) }
        mgmt := { Mgmt.reset with
          iface := .serving (.barrier { uplinks := only 7, sweeps := true, retracts := true }), barrierTimer := .running 1000 } }).mgmt.iface =
      .replyReady { status := .timeout, payload := [0#8, 0#8, 0#8, 0x80#8, 0#8] } := by decide +kernel

/-- R70: BUSY while 8 sweep jobs wait; the idle engine starts the job at once. -/
theorem test_rebalance :
    (after (.rebalanceRange (encodeRange 0 256))
      { ready with walk := { queue := List.replicate 8 (.sweep 0 1), job := some (.sweep 0 2 0) } }).mgmt.iface =
        .replyReady { status := .busy, payload := [] } ∧
      (after (.rebalanceRange (encodeRange 0 256)) ready).walk.job = some (.sweep 0 256 0) := by decide +kernel

/-! ### Path Table -/

/-- R149: a FREE group: 000Ah, FREE, generation 0, REVERT, floor 1, no copies, no members, 255 in every bucket of both maps. -/
theorem test_read_group_free :
    (after (.readGroup .granted) { ready with mgmt := { Mgmt.reset with iface := .serving (.group (.read 10)) } }).mgmt.iface =
      .replyReady { status := .ok
                    payload := [0#8, 10#8, 0#8, 0#8, 0#8, 0#8, 0#8, 0#8, 1#8, 0#8, 0#8] ++ List.replicate 128 255#8 } := by
  decide +kernel

/-- 07, "Worked case: digest of groups 5 and 6": Range Survey (5, 2) replies 2, 0, 0, 65535 and 62,129,444 (03B40524h). -/
theorem test_range_survey :
    (after .rangeSurveyAccess (after .rangeSurveyAccess (after (.rangeSurvey (encodeRange 5 2))
      { ready with table := { ready.table with groups :=
        [(5, { group5 .active with members := [member 3 .primary 4, member 7 .standby 2] }),
         (6, { group5 .active with
               mode := .hold, floor := 2
               members := [member 10 .primary 5,
                 { member 11 .primary 5 with terms := [{ watched := 10, want := .outSet }] }] })] } }))).mgmt.iface =
      .replyReady { status := .ok
                    payload := [0#8, 2#8, 0#8, 0#8, 0#8, 0#8, 0xFF#8, 0xFF#8] ++ bytes32 62129444#32 } := by decide +kernel


/-- R30, R171: Install of a FREE group: OK, ACTIVE, generation 1. -/
theorem test_install :
    (after (.installGroup .granted)
      { ready with mgmt := { Mgmt.reset with
          iface := .serving (.group (.install { group := 40, mode := .revert, floor := 2#8, members := members40 })) } }).mgmt.iface =
      .replyReady { status := .ok, payload := [1#8, 0#8, 0#8, 0#8, 1#8] } := by decide +kernel

/-- 06, section 6.10: Retire with expected 8 where LP0 holds a copy and LP1 still awaits a Done. -/
def retiring300 : State :=
  { ready with
    table := { ready.table with groups := [(300, { group5 .active with gen := 8#32 })], chains := ready.table.chains.set 0 [300] }
    lp0 := { portIn .up with slots := [(300, some { group := 300, gen := 8#32 })] }
    lp1 := { portIn .up with retracts := [{ group := 300, gen := 8#32, mark := .sent }], ackTimer := .running 2000 }
    mgmt := { Mgmt.reset with iface := .serving (.group (.retire 300 8#32)) } }

theorem test_retire_waits :
    (after (.retireGroup .granted) retiring300).lp0.retracts = [{ group := 300, gen := 9#32, mark := .sent }] ∧
      (after (.retireGroup .granted) retiring300).lp0.slots = [] ∧
      ((after (.retireGroup .granted) retiring300).group 300).state = .retiring := by decide +kernel
theorem test_retire_completes :
    (let t := after (.retractDone .lp0 300#16) (after (.retractDone .lp1 300#16) (after (.retireGroup .granted) retiring300))
     (t.group 300).state = .free ∧ (t.group 300).gen = 10#32 ∧ t.mgmt.flags = 0x80#8) := by decide +kernel

/-! ### The management link -/

/-- The state after these events of the link. -/
def linked (es : List LinkEvent) (s : State) : State := es.foldl (fun t e => linkEvent e t) s

/-- R133: a whole frame is a command; one cut by MRST_N, or begun while it is held, is none, and nothing is dropped or counted. -/
theorem test_link_frame :
    (linked [.select, .byte 0x01#8, .byte 0#8, .byte 0#8, .deselect] ready).pending = [.identify [0#8, 0#8]] := by decide +kernel
theorem test_link_cut :
    (let t := linked [.byte 0#8, .byte 0#8, .deselect]
        (after .mrstNRelease (after .mrstNAssert (linked [.select, .byte 0x01#8] ready)))
     t = ready) := by decide +kernel
theorem test_link_begun_in_hold :
    linked [.byte 0x01#8, .byte 0#8, .byte 0#8, .deselect] (after .mrstNRelease (linked [.select] (after .mrstNAssert ready))) = ready := by
  decide +kernel

/-- R135: a reply formed during a read frame that found none stays for the next read frame. -/
theorem test_link_late_reply :
    (let s := linked [.deselect] (after (.barrierTimerExpiry) (linked [.select, .byte 0xA5#8, .byte 0#8]
        { ready with mgmt := { Mgmt.reset with
            iface := .serving (.barrier { uplinks := 0#32, sweeps := true, retracts := false }), barrierTimer := .running 1000 } }))
     s.rdy = true ∧ s.pending = [] ∧ s.mgmt.sdo = [0#8, 0#8]) := by decide +kernel

/-! ### Lookup Ports -/

/-- 05, "Example: answer order with short answers": 5000 and 880 wait behind group 12, and join with it. -/
def order12 : State :=
  after (.resolve .lp0 5000#16) { holding .active with lp0 := { portIn .up with
    unanswered := 1, answers := [{ index := 5#16, needsAccess := true, answer := none, joined := false }] } }

theorem test_short_answer_waits : order12.lp0.transmit = [] ∧ order12.lp0.unanswered = 1 := by decide +kernel
theorem test_short_answer_joins :
    (after (.resolveAccess .lp0) order12).lp0.transmit.length = 2 ∧
      (after (.resolveAccess .lp0) order12).lp0.transmit[1]? = some (.answer (shortAnswer 5000#16 .badGroup)) := by decide +kernel

/-- R98: the sequence after 255 is 1; R90: a port that gains its lane forms a vector of what is not live. -/
theorem test_sequence_wraps : nextSequence 255#8 = 1#8 ∧ nextSequence 0#8 = 1#8 := by decide
theorem test_lock_gained :
    (after (.laneLockGained .lp1) ready).lp1.transmit = [.downVector { sequence := 0#8, notLive := 0xFFFFFFFF#32 }] := by decide +kernel

/-- R99: the ack of vector 3, which named uplink 1, with uplinks 0 and 2 live. -/
theorem test_vector_ack :
    (after (.vectorAck .lp0 3#8) { onLp0 (waitingVector (portIn .sync)) with live := 5#32 }).lp0.ackUp = 5#32 ∧
      (after (.vectorAck .lp0 3#8) { onLp0 (waitingVector (portIn .sync)) with live := 5#32 }).lp0.state = .up := by decide +kernel

/-- R107: another sequence is a protocol error: FAULT, with PORT and FAULT set and a fault counted. -/
theorem test_vector_ack_error :
    (after (.vectorAck .lp0 4#8) (onLp0 (waitingVector (portIn .sync)))).mgmt.flags = 0x18#8 ∧
      (after (.vectorAck .lp0 4#8) (onLp0 (waitingVector (portIn .sync)))).lp0.counters.faults = 1#32 := by decide +kernel

/-- R105: the expiry of the ack timer takes the port to FAULT; R97, R169: an Answer leaves in its bytes and is counted. -/
theorem test_ack_timer : (after (.ackTimerExpiry .lp0) (onLp0 (waitingVector (portIn .up)))).lp0.state = .fault := by decide +kernel
theorem test_answer_leaves :
    (let t := after (.answerLeaves .lp0) (after (.resolveAccess .lp0) (after (.resolve .lp0 880#16) (onLp0 (portIn .up))))
     t.lp0.sent = [.opening, .data 0x81#8, .data 0x03#8, .data 0x70#8, .data 0x02#8, .closing] ∧ t.lp0.counters.answersNoRoute = 1#32 ∧ t.lp0.unanswered = 0) := by
  decide +kernel

/-- R169: the first Down Vector after a full reset: 83h, sequence 0, every uplink named. -/
theorem test_vector_leaves :
    (after (.messageLeaves .lp0) (after (.laneLockGained .lp0) ready)).lp0.sent =
      [.opening, .data 0x83#8, .data 0x00#8, .data 0xFF#8, .data 0xFF#8, .data 0xFF#8, .data 0xFF#8, .closing] := by decide +kernel

/-- R168: a Down Vector takes 8 characters, and the long Answer 74. -/
theorem test_characters :
    (transmitChars [(2, .downVector { sequence := 0#8, notLive := 0#32 })]).length = 2 + 8 ∧
      (messageChars (.answer { index := 40#16, status := .ok, body := some (2#32, List.replicate 64 3#8) })).length = 74 := by
  decide +kernel

/-- 06, section 6.9, on one group: with 64 SENT a change waits; a Done sends it. -/
def credits : State :=
  { holding .active with lp0 := { portIn .up with
      slots := [(5, some { group := 5, gen := 1#32 })], ackTimer := .running 2000
      retracts := List.replicate 64 { group := 501, gen := 9#32, mark := .sent } } }

theorem test_change_waits_for_a_credit :
    (reportChange 5 2#32 credits).lp0.retracts.drop 64 = [{ group := 5, gen := 2#32, mark := .waiting }] ∧
      (reportChange 5 2#32 credits).lp0.transmit = [] := by decide +kernel
theorem test_done_sends_it :
    (after (.retractDone .lp0 501#16) (reportChange 5 2#32 credits)).lp0.transmit = [.retract 5 2#32] ∧
      (after (.retractDone .lp0 501#16) (reportChange 5 2#32 credits)).lp0.counters.retractsSent = 1#32 := by decide +kernel

/-! ### Management Interface and resets -/

/-- R135, R170: the reply of Identify read with the dropped bit clear: fill in the lead byte, then status, flags, length 11, 3240h; and fill
in each byte of the request frame. -/
theorem test_read_frame :
    (after (.readFrame 6) (after (.identify [0#8, 0#8]) ready)).mgmt.sdo = [0#8, 0#8, 0#8, 0#8, 11#8, 0x32#8, 0x40#8] ∧
      (after (.identify [0#8, 0#8]) ready).mgmt.sdo = [0#8, 0#8, 0#8] := by decide +kernel

/-- R134, R136: a frame sent while the reply waits is dropped, and the reply says so. -/
theorem test_dropped_bit :
    (after (.readFrame 2) (after (.requestDropped [0x01#8, 0#8, 0#8]) (after (.identify [0#8, 0#8]) ready))).mgmt.sdo =
      [0#8, 0#8, 1#8] := by
  decide +kernel

/-- 08, "Example: an uplink cut with the host's flags": UPLINK, SCAN and WALK_IDLE set, SCAN not enabled. -/
theorem test_read_events :
    (after (.readEvents [0#8, 0#8])
      { ready with mgmt := { Mgmt.reset with flags := 0x26#8, enables := 0xAA#8 } }).mgmt.flags = 0x04#8 ∧
    (after (.readEvents [0#8, 0#8])
      { ready with mgmt := { Mgmt.reset with flags := 0x26#8, enables := 0xAA#8 } }).mgmt.iface =
        .replyReady { status := .ok, payload := [0x22#8] } := by decide +kernel

/-- R146: Read Status right after a full reset; R106: a timeout of 0 is stored as 1. -/
theorem test_read_status :
    (after (.readStatus [0#8, 0#8]) State.reset).mgmt.iface = .replyReady { status := .ok, payload := List.replicate 15 0#8 } := by
  decide +kernel
theorem test_configure_ports : (after (.configurePorts [0#8, 1#8, 0#8]) ready).ackTimeout = 1#8 := by decide +kernel

/-- R163, R172: 176 bytes, and the drop counter is 0 after a clearing read. -/
theorem test_counters_clear :
    (after (.readCountersClear [0#8, 1#8, 1#8])
      { ready with mgmt := { Mgmt.reset with droppedRequests := 7#32 } }).mgmt.droppedRequests = 0#32 := by decide +kernel

/-- R154: the reset comes with the read of the reply; the init sweep runs again. -/
theorem test_full_reset_request :
    (after (.readFrame 4) (after (.fullResetRequest [0#8, 0#8]) ready)).table.ready = false ∧
      (after (.fullResetRequest [0#8, 0#8]) ready).table.ready = true := by decide +kernel

/-- R143: MRST_N clears the enables and keeps the flags. -/
theorem test_mrst :
    (after .mrstNAssert { ready with mgmt := { Mgmt.reset with flags := 5#8, enables := 7#8 } }).mgmt =
      { Mgmt.reset with flags := 5#8 } := by decide +kernel

theorem test_mrst_release : (after .mrstNRelease (after .mrstNAssert ready)).mrst = false := by decide +kernel

/-- R112: a lane whose lock held across the reset enters SYNC at its end. -/
theorem test_porst :
    (after .porstNRelease (after .porstNAssert (onLp0 (portIn .up)))).lp0.state = .sync ∧
      (after .porstNAssert (onLp0 (portIn .up))).lp0.state = .down := by decide +kernel
theorem test_init_sweep_end : (after .initSweepEnd State.reset).table.ready = true ∧ (after .initSweepEnd State.reset).mgmt.flags = 1#8 := by
  decide +kernel

/-! ### Witnesses: the hypotheses of each statement, met clause by clause -/

/-- A busy state: uplink 0 LIT and settled; group 5 ACTIVE with a copy on LP0; group 7 RETIRING, named by an entry SENT on LP0; a
Resolve waiting; the job for uplink 0 running at group 5 with a sweep behind it; Read Group 5 waiting for its access. -/
def busy : State :=
  { ready with
    uplinks := ready.uplinks.set 0 (inState .lit false), live := 1#32, settled := 1#32
    table := { (holding .active).table with
      groups := [(5, group5 .active), (7, { group5 .retiring with gen := 3#32 })] }
    walk := { queue := [.sweep 0 1], job := some (.uplink 0 (some 5)) }
    lp0 := { portIn .up with
      ackUp := 1#32, slots := [(5, some { group := 5, gen := 1#32 })], ackTimer := .running 2000, unanswered := 1
      answers := [{ index := 5#16, needsAccess := true, answer := none, joined := false }]
      retracts := [{ group := 7, gen := 3#32, mark := .sent }] }
    mgmt := { Mgmt.reset with iface := .serving (.group (.read 5)) }
    pending := [.uplinkJobVisit] }

/-- `busy` with a Barrier on uplink 0 waiting in place of Read Group. -/
def busyBarrier : State :=
  { busy with mgmt := { Mgmt.reset with
      iface := .serving (.barrier { uplinks := 1#32, sweeps := true, retracts := true }), barrierTimer := .running 1000 } }

/-- A scan frame in progress. -/
def inScan (st : ScanState) (bad : Nat) : State :=
  { ready with scan := { state := st, period := 100#16, bad := bad, inFrame := true, driven := [.loadRise, .loadFall] } }

theorem witness_StepRunsTheFrontCommand : busy.pending = .uplinkJobVisit :: [] ∧ ready.pending = [] := ⟨rfl, rfl⟩
theorem witness_busy_steps : (∃ t, step busy = .next t) ∧ ∃ t, step busyBarrier = .next t := ⟨⟨_, rfl⟩, ⟨_, rfl⟩⟩
theorem witness_UplinksStayInStep :
    UplinksOk busy ∧ ScanOk busy ∧ ScanOk (after (.scanFrameJudged 0#68) (inScan .tracking 7)) := by decide +kernel
theorem witness_SettledSetStaysCurrent : SettledInv busy := by
  refine ⟨?_, ?_, ?_, ?_, ?_⟩ <;> decide +kernel
theorem witness_PortsStayInOrder : PortsInv busy := by
  refine ⟨?_, ?_, ?_, ?_, ?_⟩ <;> decide +kernel
theorem witness_RetractEntriesStayInOrder : RetractsInv busy := by
  refine ⟨?_, ?_, ?_⟩ <;> decide +kernel
theorem witness_CopiesNameCurrentGenerations : DirectoryInv busy := by
  refine ⟨?_, ?_, ?_, ?_, ?_, ?_, ?_⟩ <;> decide +kernel
theorem witness_GroupRecordsStayInOrder : GroupsInv busy := ⟨by decide +kernel, (by decide : 5 < Config.groups)⟩
theorem witness_ChainsAndWalkStayInOrder : WalkInv busy := by
  refine ⟨?_, ?_, ?_, ?_, (by decide +kernel : 5 ∈ busy.table.chains[(0 : Fin 32)])⟩ <;> decide +kernel
theorem witness_LinkPoolStaysWhole : LinksInv busy :=
  ⟨witness_GroupRecordsStayInOrder, by decide +kernel, by decide +kernel⟩
theorem witness_ManagementStaysInOrder : MgmtInv busyBarrier :=
  ⟨by decide +kernel, by decide +kernel, (by decide +kernel : (_ ≠ Timer.stopped) ∧ barrierHolds _ busyBarrier = false)⟩

theorem witness_FullResetAndInitSweep :
    Runs State.reset ∧ State.reset.table.ready = false ∧ Runs ready ∧ ready.table.ready = true ∧
      (after .porstNAssert (onLp0 (portIn .up))).porst = true ∧ HeldInReset (after .porstNAssert (onLp0 (portIn .up))) := by
  decide +kernel
theorem witness_ManagementResetHoldsTheInterface :
    (after .mrstNAssert ready).mrst = true ∧ (requestBytes (.identify [])).isSome = true := by decide +kernel

theorem witness_DarknessDrivesTheUplinkStates :
    Runs (nine dirty) ∧ true ≠ (nine dirty).uplinks[9].line ∧ false = (nine { dirty with state := .dark }).uplinks[9].line ∧
      LiveCurrent (nine { dirty with state := .dark }) ∧
      dirty.rawDark = dirty.d ∧ ({ dirty with line := true } : Uplink).rawDark = true ∧
      ({ dirty with onset := 2 } : Uplink).config.flapLimit.toNat ≤ 2 + 1 ∧ 1 + 1 < dirty.config.flapLimit.toNat ∧
      ({ dirty with d := true, state := .suspect } : Uplink).rawDark = false ∧
      ({ dirty with d := true, state := .dark } : Uplink).config.restoreTime ≠ 0#16 := by decide +kernel

theorem witness_UplinkTimersExpire :
    (∀ st ∈ [UplinkState.suspect, .restoring, .damped], Runs (nine { inState st false with qualify := .running 50 }) ∧
      (nine { inState st false with qualify := .running 50 }).uplinks[9].state = st ∧
      (nine { inState st false with qualify := .running 50 }).uplinks[9].qualify ≠ .stopped) ∧
    (nine { inState .lit false with onset := 1, window := .running 9 }).uplinks[9].window ≠ .stopped ∧
    LiveCurrent (nine (inState .dark true)) := by decide +kernel

theorem witness_ScanFramesAreJudgedWhole :
    Runs (inScan .tracking 6) ∧ (inScan .tracking 6).scan.state ≠ .off ∧ (inScan .tracking 6).scan.inFrame = true ∧
      goodMarker 0x60000000000000000#68 = true ∧ goodMarker 0xE0000000000000000#68 = false ∧ ready.scan.state = .off ∧
      (inScan .tracking 7).scan.state = .tracking ∧ (inScan .stale 8).scan.state = .stale := by decide

theorem witness_listens : Listens ready ∧ Listens State.reset ∧ Listens (inScan .tracking 0) := by decide

theorem witness_SetAdminMovesNamedUplinks : Listens (nine dirty) ∧ (nine dirty).uplinks[9].state ≠ .adminDown := by decide +kernel
theorem witness_OneStepRequestsReply : Listens ready ∧ (3 : Fin 32).val = (3#8 : Byte).toNat % 32 := by decide
theorem witness_EventsAreCollectedWhenEnabled :
    Listens ready ∧ (∀ b < 8, (0x22#8 &&& 0x66#8 : Byte).getLsbD b = ((0x22#8 : Byte).getLsbD b && (0x66#8 : Byte).getLsbD b)) := by decide
theorem witness_CountersAreReadTogether : Listens ready ∧ (countersPayload ready).length = 176 := by decide +kernel

theorem witness_ConfigureUplinkStoresClampedFields :
    Listens ready ∧ (9 : Fin 32).val = (0xE9#8 : Byte).toNat % 32 ∧ storedConfig { defaultConfig with flapWindow := 0#8, holdTime := 3601#16 } =
      { defaultConfig with flapWindow := 1#8, holdTime := 3600#16 } := by decide
theorem witness_ConfigureScanStartsAndStops :
    Listens ready ∧ ready.scan.state = .off ∧ Listens (inScan .stale 8) ∧ (inScan .stale 8).scan.state ≠ .off ∧
      (20#16 = if (19#16).toNat < 20 then 20#16 else if 2000 < (19#16).toNat then 2000#16 else 19#16) ∧
      (20#16 = if (20#16).toNat < 20 then 20#16 else if 2000 < (20#16).toNat then 2000#16 else 20#16) ∧
      (2000#16 = if (2000#16).toNat < 20 then 20#16 else if 2000 < (2000#16).toNat then 2000#16 else 2000#16) ∧
      (2000#16 = if (2001#16).toNat < 20 then 20#16 else if 2000 < (2001#16).toNat then 2000#16 else 2001#16) := by
  refine ⟨?_, ?_, ?_, ?_, ?_, ?_, ?_, ?_⟩ <;> decide
theorem witness_LiveSetChangesAreReported :
    liveOf busy.uplinks = busy.live ∧ liveOf (busy.uplinks.set 1 (inState .lit false)) ≠ busy.live := by decide +kernel

/-- Uplink 0 leaves the live set with group 5 on its chain; nothing runs. -/
def leaving : State := { holding .active with settled := 1#32 }

theorem witness_SettledSetChangesQueueJobs :
    settledOf leaving.live leaving.lp0 leaving.lp1 = 0#32 ∧ leaving.walk.job = none ∧ leaving.walk.queue = [] ∧ BarrierOk leaving ∧
      leaving.table.chains[(0 : Fin 32)] = 5 :: [] ∧ busy.walk.job ≠ none := by
  refine ⟨by decide +kernel, rfl, rfl, rfl, by decide +kernel, by decide⟩

/-- LP0 in UP holds the last retract entry, and a Barrier that includes retracts waits: the port reset of a lost lane empties the list. -/
def owing : State :=
  { leaving with
    live := 3#32, settled := 2#32, lp0 := { portIn .up with ackUp := 2#32, retracts := [{ group := 9, gen := 3#32, mark := .sent }] }
    mgmt := { Mgmt.reset with
      iface := .serving (.barrier { uplinks := 0#32, sweeps := false, retracts := true }), barrierTimer := .running 1000 } }

/-- The idle engine takes uplink 0's job in the port reset, and the Barrier is answered (R128, R102, R152). -/
theorem witness_port_reset_with_a_barrier :
    (let s := { owing with lp0 := { portIn .down with locked := false } }
     settledOf s.live s.lp0 s.lp1 = 3#32 ∧ s.walk.job = none ∧ s.walk.queue = [] ∧ s.table.chains[(0 : Fin 32)] = 5 :: [] ∧
       barrierHolds { uplinks := 0#32, sweeps := false, retracts := true } s = true) ∧
      (after (.laneLockLost .lp0) owing).walk.job = some (.uplink 0 (some 5)) ∧ (after (.laneLockLost .lp0) owing).rdy = true := by
  decide +kernel

/-- The fields of Install and Modify for group 40. -/
def install40 : InstallFields := { group := 40, mode := .revert, floor := 2#8, members := members40 }
def modify40 : ModifyFields := { group := 40, expected := 0#32, mode := .revert, floor := 2#8, members := members40 }

theorem witness_GroupRequestsAreChecked :
    Listens ready ∧ Listens State.reset ∧ 40 < 65536 ∧ Carried members40 ∧ listValid members40 ∧ ¬ listValid [] ∧ Carried [] ∧
      ready.table.ready = true ∧ State.reset.table.ready = false ∧ 4096 ≤ 4096 ∧ 4095 < 4096 := by
  simp only [listValid]; decide +kernel

/-- A state in which this request waits for its access. -/
def asking (r : Request) (s : State) : State := { s with mgmt := { s.mgmt with iface := .serving r } }

theorem witness_InstallGroupFillsAFreeGroup :
    (∀ st ∈ [GroupState.free, .active, .retiring],
      let s := asking (.group (.install { install40 with group := 5 })) (holding st)
      Runs s ∧ s.grantee = some .mgmt ∧ (s.group 5).state = st) := by decide +kernel
theorem witness_ModifyGroupMatchesMembersByUplink :
    (∀ st ∈ [GroupState.free, .active, .retiring],
      let s := asking (.group (.modify { modify40 with group := 5 })) (holding st)
      Runs s ∧ s.grantee = some .mgmt ∧ (s.group 5).state = st ∧ (9#32 : Generation) ≠ (s.group 5).gen ∧
        (st = .active → 1#32 = (s.group 5).gen)) := by decide +kernel
theorem witness_RetireGroupWaitsForItsRetracts :
    (∀ st ∈ [GroupState.free, .active, .retiring],
      let s := asking (.group (.retire 5 1#32)) (holding st)
      Runs s ∧ s.grantee = some .mgmt ∧ (s.group 5).state = st) ∧ Runs retiring300 ∧ retiring300.grantee = some .mgmt ∧
      (retiring300.group 300).gen = 8#32 ∧ retiring300.lp1.retracts.any (·.group == 300) = true := by decide +kernel
theorem witness_ReadGroupReportsWithoutChange :
    (let s := asking (.group (.read 5)) (holding .active)
     Runs s ∧ s.mgmt.iface = .serving (.group (.read 5)) ∧ s.grantee = some .mgmt ∧ (s.group 5).map[0]? = some (some 0) ∧
       (s.group 5).members[0]? = some (member 0 .primary 1) ∧ noneMap[63]? = some none) := by decide +kernel
theorem witness_ChainEditsKeepOrderAndCursor :
    (busy.table.chains[(0 : Fin 32)]).Nodup ∧ (1#32 : UplinkSet).getLsbD 0 = true ∧ (0#32 : UplinkSet).getLsbD 0 = false ∧
      6 ∉ busy.table.chains[(0 : Fin 32)] ∧ busy.walk.job = some (.uplink 0 (some 5)) ∧
      busy.table.chains[(0 : Fin 32)] = [] ++ 5 :: [] := by decide +kernel
theorem witness_ReportedChangesOweRetracts :
    OnPorts RetractsOk credits ∧ credits.lp0.holdsCopy 5 = true ∧ sentCount credits.lp0.retracts = 64 ∧
      OnPorts RetractsOk (reportChange 5 2#32 credits) ∧ (reportChange 5 2#32 credits).lp0.retracts.any (·.waitsFor 5) = true ∧
      OnPorts RetractsOk busy ∧ busy.lp0.holdsCopy 5 = true ∧ sentCount busy.lp0.retracts < 64 := by decide +kernel
theorem witness_GenerationsRiseWithContent :
    SparseWf Group.reset busy.table.groups ∧ busy.mgmt.resetOwed = false ∧ ∃ t, exec .uplinkJobVisit busy = .next t := by
  refine ⟨by decide +kernel, rfl, ⟨_, rfl⟩⟩

/-- A survey of groups 5 and 6 at its first and at its last group. -/
def survey (next left : Nat) : Survey :=
  { next := next, left := left, active := 0, retiring := 0, free := 0, firstFree := none, digest := 0#32 }

theorem witness_RangeSurveyReadsOneGroupAnAccess :
    Listens ready ∧ Listens State.reset ∧ 4096 < 4096 + 1 ∧ 4095 + 1 ≤ 4096 ∧
    (∀ left ∈ [1, 2], ∀ st ∈ [GroupState.free, .active, .retiring],
      let s := asking (.survey (survey 5 left)) (holding st)
      Runs s ∧ s.grantee = some .mgmt ∧ (s.group 5).state = st) := by decide +kernel
theorem witness_ArbiterGrantsInCyclicOrder :
    ∃ pos : Requester → Nat, pos .lp0 = 0 ∧ pos .lp1 = 1 ∧ pos .walk = 2 ∧ pos .mgmt = 3 ∧ busy.table.ready = true ∧
      State.reset.table.ready = false :=
  ⟨fun q => match q with
    | .lp0 => 0
    | .lp1 => 1
    | .walk => 2
    | .mgmt => 3, by decide⟩

/-- Each access command with its requester not granted, and during INIT. -/
theorem witness_accesses_not_granted :
    busy.grantee = some .lp0 ∧ (∀ q ∈ [Requester.lp1, .walk, .mgmt], busy.grantee ≠ some q) ∧ busy.walk.job ≠ some (.uplink 0 none) ∧
      ready.grantee ≠ some .lp0 ∧ State.reset.table.ready = false := by decide +kernel
/-- R42: with a Resolve waiting at LP0 the walk's visit is not granted, though its job is in progress. -/
theorem test_visit_waits_for_its_grant :
    after .uplinkJobVisit busy = busy ∧ (after .uplinkJobVisit (after (.resolveAccess .lp0) busy)).walk.job ≠ busy.walk.job := by
  decide +kernel

/-- Seven or eight sweeps wait behind a running job. -/
def sweeping (n : Nat) : State :=
  { ready with walk := { queue := List.replicate n (.sweep 0 1), job := some (.sweep 0 2 0) } }

theorem witness_RebalanceRangeQueuesASweep :
    Listens (sweeping 8) ∧ ((sweeping 8).walk.queue.filter fun j => j.isSweep).length = 8 ∧
      ((sweeping 7).walk.queue.filter fun j => j.isSweep).length < 8 ∧ (sweeping 7).walk.job ≠ none ∧ ready.walk.job = none := by
  decide +kernel

/-- The walk's requester is granted while this job runs. -/
def walking (j : RunningJob) : State := { holding .active with walk := { queue := [], job := some j } }

theorem witness_UplinkVisitsPersistPlacements :
    Runs (walking (.uplink 0 (some 5))) ∧ (walking (.uplink 0 (some 5))).grantee = some .walk ∧
      (walking (.uplink 0 (some 5))).table.chains[(0 : Fin 32)] = [] ++ 5 :: [] ∧ 5 ∉ ([] : List Nat) ∧
      place .full (group5 .active).members 1 (group5 .active).map 0#32 ≠ (group5 .active).map ∧
      place .full (group5 .active).members 1 (group5 .active).map 1#32 = (group5 .active).map := by decide +kernel
theorem witness_SweepsVisitEveryGroupInFull :
    Runs (walking (.uplink 0 none)) ∧ (walking (.uplink 0 none)).grantee = some .walk ∧
      (walking (.sweep 5 1 5)).grantee = some .walk ∧ (walking (.sweep 5 2 5)).grantee = some .walk ∧ 5 + 1 < 5 + 2 := by
  decide +kernel
theorem witness_EndedJobsMakeWayForTheNext :
    ready.walk = { queue := [], job := none } ∧ leaving.table.chains[(0 : Fin 32)] = 5 :: [] ∧
      leaving.table.chains[(1 : Fin 32)] = [] := by decide +kernel
/-- A Barrier waits while a job is in progress; its test holds in one state and not in the other. -/
theorem witness_barrier_tested_during_a_job :
    (let b : BarrierTest := { uplinks := 2#32, sweeps := false, retracts := false }
     let s := asking (.barrier b) (walking (.uplink 0 none))
     s.walk.job ≠ none ∧ s.mgmt.iface = .serving (.barrier b) ∧ barrierHolds b s = true) ∧
      busyBarrier.walk.job ≠ none ∧ barrierHolds { uplinks := 1#32, sweeps := true, retracts := true } busyBarrier = false := by decide +kernel
theorem witness_BarrierWaitsForItsTest :
    Listens ready ∧ barrierHolds { uplinks := 1#32, sweeps := true, retracts := true } ready = true ∧ Listens (walking (.uplink 0 none)) ∧
      barrierHolds { uplinks := 1#32, sweeps := false, retracts := false } (walking (.uplink 0 none)) = false ∧
      Runs busyBarrier ∧ busyBarrier.mgmt.barrierTimer ≠ .stopped := by decide +kernel

theorem witness_LockGainedEntersSync :
    ready.lp0.state = .down ∧ Runs ready ∧ (onLp0 (portIn .up)).lp0.state ≠ .down := by decide
theorem witness_PortResetEmptiesThePort :
    Runs busy ∧ busy.lp0.state ≠ .down ∧ ready.lp0.state = .down ∧ SparseWf Group.reset busy.table.groups ∧
      (busy.group 7).state = .retiring ∧ busy.lp1.retracts.any (·.group == 7) = false ∧ busy.lp0.state = .up ∧
      (onLp0 (portIn .sync)).lp0.state ≠ .up := by decide +kernel

/-- A port with n Resolves answered, the first Answer joined, of which m took an access. -/
def resolving (n m : Nat) : Port :=
  { portIn .up with
    unanswered := m
    answers := List.replicate m { index := 5#16, needsAccess := true, answer := none, joined := false } ++
      List.replicate (n - m) { index := 5000#16, needsAccess := false, answer := some (shortAnswer 5000#16 .badGroup), joined := false } }

theorem witness_ProtocolErrorsFaultThePort :
    Runs busy ∧ busy.lp0.state = .up ∧ busy.lp0.outstanding = none ∧ busy.lp0.retracts.map (·.group) = [7] ∧
      decodeLane [4#8] = .unknown ∧ decodeLane [1#8] = .wrongLength ∧ busy.lp0.ackTimer ≠ .stopped ∧
      64 ≤ (resolving 64 32).answers.length ∧ ready.lp0.state = .down := by decide +kernel
theorem witness_ResolvesAreTakenInOrder :
    Runs (onLp0 (resolving 63 32)) ∧ 64 ≤ (resolving 64 32).answers.length ∧ (resolving 63 32).answers.length < 64 ∧ TransmitOk (resolving 63 32) ∧
      32 ≤ (resolving 63 32).unanswered ∧ TransmitOk (resolving 63 31) ∧ (resolving 63 31).unanswered < 32 ∧
      TransmitOk (portIn .sync) ∧ ((portIn .up).answers.all fun e => e.joined) = true ∧
      ((resolving 63 31).answers.all fun e => e.joined) = false ∧ (4095#16 : BitVec 16).toNat < 4096 ∧
      4096 ≤ (4096#16 : BitVec 16).toNat ∧ (onLp0 (resolving 63 31)).table.ready = true ∧ (resolving 63 31).state = .up := by
  decide +kernel
theorem witness_ResolveAccessesFormAnswers :
    Runs order12 ∧ order12.grantee = some .lp0 ∧ order12.lp0.answers.map (·.needsAccess) = [true, false] ∧
      (order12.lp0.answers.head?.map (·.answer.isNone)) = some true ∧ (order12.group 5).state = .active ∧
      (activeSet 0#32 1 (group5 .active).members).any id = false ∧ (activeSet 1#32 1 (group5 .active).members).any id = true := by
  decide +kernel
theorem witness_MatchingVectorAcksAreTaken :
    Runs (onLp0 (waitingVector (portIn .sync))) ∧
      (waitingVector (portIn .sync)).outstanding = some { sequence := 3#8, notLive := 2#32 } ∧
      (waitingVector (portIn .sync)).pendingFlag = false ∧ (waitingVector (portIn .up)).state = .up ∧
      ({ waitingVector (portIn .up) with pendingFlag := true } : Port).pendingFlag = true ∧
      SettledInv (after (.laneLockGained .lp0) ready) := by
  refine ⟨rfl, rfl, rfl, rfl, rfl, ?_, ?_, ?_, ?_, ?_⟩ <;> decide +kernel

theorem witness_MatchingRetractDonesAreTaken :
    Runs (reportChange 5 2#32 credits) ∧ RetractsOk (reportChange 5 2#32 credits).lp0 ∧
      (reportChange 5 2#32 credits).lp0.retracts =
        { group := 501, gen := 9#32, mark := .sent } :: (List.replicate 63 { group := 501, gen := 9#32, mark := .sent } ++
          { group := 5, gen := 2#32, mark := .waiting } :: []) ∧
      RetractsOk busy.lp0 ∧ busy.lp0.retracts = { group := 7, gen := 3#32, mark := .sent } :: [] ∧
      (busy.group 7).state = .retiring := by decide +kernel
theorem witness_MessagesLeaveInOrder :
    (after (.resolveAccess .lp0) order12).lp0.transmit.length = 2 ∧
      ((after (.resolveAccess .lp0) order12).lp0.answers.map (·.joined)) = [true, true] ∧
      PortsInv (after (.resolveAccess .lp0) order12) ∧ (reportChange 5 2#32 busy).lp0.transmit = [.retract 5 2#32] ∧
      (after (.laneLockGained .lp0) ready).lp0.transmit = [.downVector { sequence := 0#8, notLive := 0xFFFFFFFF#32 }] := by
  refine ⟨?_, ?_, ⟨?_, ?_, ?_, ?_, ?_⟩, ?_, ?_⟩ <;> decide +kernel
theorem witness_PortCommandsLeaveTheOtherPort :
    portOf (.laneLockLost .lp0) = some .lp0 ∧ ∃ t, exec (.laneLockLost .lp0) busy = .next t := ⟨rfl, ⟨_, rfl⟩⟩

theorem witness_RequestFramesAreJudged :
    requestBytes (.identify [0#8, 1#8]) = some (0x01#8, [0#8, 1#8]) ∧ (Instr.identify [0#8, 1#8]).wellFormed = true ∧ Runs busy ∧
      busy.mrst = false ∧ busy.mgmt.iface ≠ .idle ∧ (after .mrstNAssert ready).mrst = true ∧ Listens ready ∧
      frameFits 0x01#8 [0#8, 1#8] = false ∧ isUnknownRequestKind 0x00#8 = true := by decide +kernel
theorem witness_ReadFramesReturnTheReply :
    (after (.identify [0#8, 0#8]) ready).rdy = true ∧ (after (.identify [0#8, 0#8]) ready).mgmt.resetOwed = false ∧
      (after (.fullResetRequest [0#8, 0#8]) ready).rdy = true ∧ (after (.fullResetRequest [0#8, 0#8]) ready).mgmt.resetOwed = true ∧
      ready.mgmt.iface = .idle ∧ ready.rdy = false ∧
      (after (.identify [0#8, 0#8]) (linked [.select, .byte 0xA5#8] ready)).link =
        { selected := true, cut := false, found := false, clocked := 0xA5#8 :: [] } ∧
      (after (.identify [0#8, 0#8]) (linked [.select, .byte 0xA5#8] ready)).rdy = true := by decide +kernel
theorem witness_CountersAndFlagsLatch :
    (∃ t, exec .uplinkJobVisit busy = .next t) ∧ (∃ t, exec (.readCountersClear (encodeReadCounters true)) ready = .next t) ∧
      busy.mgmt.resetOwed = false := ⟨⟨_, rfl⟩, ⟨_, rfl⟩, rfl⟩

theorem witness_QuotasSumTo64 : (10 : Nat) = [4, 4, 2].sum ∧ quotas [4, 4, 2] = [26, 25, 13] := by decide
theorem witness_EveryBucketNamesAnActiveMember :
    noneMap.length = 64 ∧ (activeSet all40 2 members40).any id = true ∧ (activeSet 0#32 2 members40).any id = false := by decide +kernel
theorem witness_PlacementsEndAtQuotaOrKeep :
    map40.length = 64 ∧ map40[0]? = some (some 0) ∧ (∀ x ∈ noneMap, x = none) ∧ members40[3]? = some (member 20 .standby 3) ∧
      (activeSet all40 2 members40)[0]? = some true ∧ activeWeights all40 2 members40 = [4, 4, 2, 0] := by decide +kernel
theorem witness_PlacementIsIdempotent : activeSet all40 2 members40 = activeSet 0x00001088#32 2 members40 := by decide +kernel
theorem witness_ShrinkingDisturbsAtMostOneBucket :
    activeSet all40 2 members40 = [true, true, true, false] ∧ activeSet no7 2 members40 = [true, false, true, false] := by decide +kernel
theorem witness_FreeingAndFillingGoInOrder :
    largestDeficit [some 26, none, some 25, some 26] 0 none = some (0, 26) ∧ (activeSet all40 2 members40)[0]? = some true := by decide
theorem witness_RequestFramesRoundTrip :
    install40.group < 65536 ∧ Carried install40.members ∧
      Carried [{ member 11 .primary 5 with terms := [{ watched := 10, want := .outSet }] }] ∧
      (9 : Fin 32).val = (0xE9#8 : Byte).toNat % 32 := by decide
theorem witness_ReceivedBytesMakeOneCommand :
    (0x01#8 : Byte) ≠ 0xA5#8 ∧ frameInstr true [0x01#8, 0#8, 0#8] = some (.identify [0#8, 0#8]) ∧
      (let r : LaneReceiver := { locked := true, idles := 0, recent := [true, true, true], message := none }
       r.locked = true ∧ r.message = none ∧ r.recent.count true < 4 ∧ 3 ≤ (r.recent.take 15).count true) := by decide
/-- The link's clauses: no frame, a frame cut by a reset, one begun while a reset is held. -/
theorem witness_link :
    ready.link.selected = false ∧ (after .mrstNAssert ready).mrst = true ∧
      (after .mrstNAssert (linked [.select, .byte 0x01#8] ready)).link.cut = true ∧
      (linked [.select] (after .mrstNAssert ready)).link.selected = true ∧ (after .mrstNAssert ready).link.selected = false ∧
      (after .porstNAssert (linked [.select] ready)).link.cut = true := by decide +kernel
/-- Three undecodable characters, this many idle ones, and a fourth undecodable one. -/
def fourErrors (n : Nat) : List LaneChar := .undecodable :: .undecodable :: .undecodable :: idlesThen n [.undecodable]

/-- A run of 32 idle characters cannot stand in 31 characters; the sixteenth character is the last that counts with the first. -/
theorem witness_receiver_lock :
    (∀ before after : List LaneChar, [] ++ List.replicate 31 .idle ≠ before ++ List.replicate 32 .idle ++ after) ∧
      (.signalLost ∉ fourErrors 12 ∧ (fourErrors 12).length = 16 ∧ (fourErrors 12).count .undecodable = 4 ∧
        receiveAll .lp0 LaneReceiver.start (idlesThen 32 (fourErrors 12)) = [.laneLockGained .lp0, .laneLockLost .lp0]) ∧
      receiveAll .lp0 LaneReceiver.start (idlesThen 32 (fourErrors 13)) = [.laneLockGained .lp0] := by
  refine ⟨fun before after h => ?_, by decide +kernel, by decide +kernel⟩
  have := congrArg List.length h
  simp only [List.length_append, List.length_replicate, List.length_nil] at this
  omega

end Sys2Proof.Tests
end

section
/-! PROOFS. The record of one uplink: what each operation of Uplink Watch can do to it, and that every one keeps it in order
(R7, R9, R17, R19). -/
namespace Sys2Proof.Proofs
open Sys2Proof.Machine Sys2Proof.Safety

/-! ### Entering a state -/

/-- The part of `UplinkOk` that does not speak of the state: what an uplink must meet to enter one. -/
def MayEnter (v : Uplink) : Prop := v.d = v.rawDark ∧ OnsetBounded v ∧ WindowInStep v

/-- The part of `UplinkOk` that does not need d to be what the inputs give: what holds when an input has just changed. -/
def InputsMoved (v : Uplink) : Prop :=
  DarknessInStep v ∧ QualifyInStep v ∧ OnsetBounded v ∧ WindowInStep v ∧ (v.state = .adminDown → v.onset = 0)

theorem uplinkOk_iff (v : Uplink) : UplinkOk v ↔ v.d = v.rawDark ∧ InputsMoved v := Iff.rfl

theorem mayEnter_of_uplinkOk {v : Uplink} (h : UplinkOk v) : MayEnter v := by
  obtain ⟨hd, -, -, honset, hwindow, -⟩ := h
  exact ⟨hd, honset, hwindow⟩

/-- A count of 0 is within any flap limit. -/
theorem onsetBounded_of_zero {v : Uplink} (h : v.onset = 0) : OnsetBounded v := by
  by_cases hl : v.config.flapLimit = 0#4
  · exact .inr ⟨hl, h⟩
  · exact .inl (by rw [h]; bv_omega)

/-- A record that enters a state other than ADMIN_DOWN is in order when d and the qualify timer are the state's own. -/
theorem uplinkOk_of_entered {v : Uplink} (h : MayEnter v) (hdark : DarknessInStep v) (hqualify : QualifyInStep v)
    (hs : v.state ≠ .adminDown) : UplinkOk v := by
  obtain ⟨hraw, honset, hwindow⟩ := h
  exact ⟨hraw, hdark, hqualify, honset, hwindow, fun hadmin => absurd hadmin hs⟩

theorem enterLit_ok {v : Uplink} (h : MayEnter v) (hd : v.d = false) : UplinkOk v.enterLit := by
  have hw : MayEnter v.enterLit := h
  refine uplinkOk_of_entered hw ?_ ?_ ?_ <;> simp [DarknessInStep, QualifyInStep, Uplink.enterLit, hd]

theorem enterDark_ok {v : Uplink} (h : MayEnter v) (hd : v.d = true) : UplinkOk v.enterDark := by
  have hw : MayEnter v.enterDark := h
  refine uplinkOk_of_entered hw ?_ ?_ ?_ <;> simp [DarknessInStep, QualifyInStep, Uplink.enterDark, hd]

theorem enterSuspect_ok {v : Uplink} (h : MayEnter v) (hd : v.d = true) : UplinkOk v.enterSuspect := by
  have hw : MayEnter v.enterSuspect := h
  refine uplinkOk_of_entered hw ?_ ?_ ?_ <;> simp [DarknessInStep, QualifyInStep, Uplink.enterSuspect, hd]

theorem enterRestoring_ok {v : Uplink} (h : MayEnter v) (hd : v.d = false) : UplinkOk v.enterRestoring := by
  have hw : MayEnter v.enterRestoring := h
  refine uplinkOk_of_entered hw ?_ ?_ ?_ <;> simp [DarknessInStep, QualifyInStep, Uplink.enterRestoring, hd]

/-- Entry to DAMPED clears the count and its window, whatever they were (R19). -/
theorem enterDamped_ok {v : Uplink} (hd : v.d = v.rawDark) : UplinkOk v.enterDamped := by
  have hw : MayEnter v.enterDamped := ⟨hd, onsetBounded_of_zero rfl, by simp [WindowInStep, Uplink.enterDamped]⟩
  refine uplinkOk_of_entered hw ?_ ?_ ?_ <;> simp [DarknessInStep, QualifyInStep, Uplink.enterDamped]

theorem enterReturn_ok {v : Uplink} (h : MayEnter v) (hd : v.d = false) : UplinkOk v.enterReturn := by
  unfold Uplink.enterReturn
  split
  · exact enterLit_ok h hd
  · exact enterRestoring_ok h hd

theorem enterByDarkness_ok {v : Uplink} (h : MayEnter v) : UplinkOk v.enterByDarkness := by
  unfold Uplink.enterByDarkness
  cases hd : v.d
  · exact enterReturn_ok h hd
  · exact enterDark_ok h hd

/-! ### A change of d -/

/-- A counted onset that does not reach the flap limit leaves the count below it, with its window running (R19). -/
theorem mayEnter_counted {v : Uplink} (h : MayEnter v) (hlt : v.onset + 1 < v.config.flapLimit.toNat) :
    MayEnter { v with onset := v.onset + 1
                      window := if v.onset = 0 then .running (v.config.flapWindow.toNat * 1000000) else v.window } := by
  obtain ⟨hraw, -, hwindow⟩ := h
  refine ⟨hraw, .inl hlt, ?_⟩
  by_cases h0 : v.onset = 0 <;> simp_all [WindowInStep]

/-- An onset damps the uplink or enters the state it would enter without the count. -/
theorem takeOnset_ok {v : Uplink} {enter : Uplink → Uplink} (h : MayEnter v)
    (henter : ∀ w : Uplink, MayEnter w → w.d = v.d → UplinkOk (enter w)) : UplinkOk (v.takeOnset enter) := by
  unfold Uplink.takeOnset
  split
  · exact henter v h rfl
  · split
    · exact enterDamped_ok h.1
    · exact henter _ (mayEnter_counted h (by omega)) rfl

/-- A change of d is taken in every state: the states whose d has turned are left, ADMIN_DOWN and DAMPED only record it. -/
theorem takeChange_ok {v : Uplink} (h : MayEnter v) (hqualify : QualifyInStep v) (hadmin : v.state = .adminDown → v.onset = 0)
    (hdark : v.state = .suspect ∨ v.state = .dark → v.d = false) (hlight : v.state = .lit ∨ v.state = .restoring → v.d = true) :
    UplinkOk v.takeChange := by
  unfold Uplink.takeChange
  split
  next hs hd =>
    refine takeOnset_ok h fun w hw hwd => ?_
    split
    · exact enterDark_ok hw (hwd.trans hd)
    · exact enterSuspect_ok hw (hwd.trans hd)
  next hs hd => exact enterLit_ok h hd
  next hs hd => exact enterReturn_ok h hd
  next hs hd => exact takeOnset_ok h fun w hw hwd => enterDark_ok hw (hwd.trans hd)
  next hlit hsuspect hdarkState hrestoring =>
    have hs : v.state = .adminDown ∨ v.state = .damped := by
      cases hs : v.state <;> simp_all
    obtain ⟨hraw, honset, hwindow⟩ := h
    exact ⟨hraw, by rcases hs with hs | hs <;> simp [DarknessInStep, hs], hqualify, honset, hwindow, hadmin⟩

/-- A re-evaluation puts a record whose inputs have moved in order again. -/
theorem reevaluate_ok {v : Uplink} (h : InputsMoved v) : UplinkOk v.reevaluate := by
  unfold Uplink.reevaluate
  split
  next hsame => exact ⟨hsame.symm, h⟩
  next hne =>
    obtain ⟨⟨hdark, hlight⟩, hqualify, honset, hwindow, hadmin⟩ := h
    refine takeChange_ok ⟨rfl, honset, hwindow⟩ hqualify hadmin (fun hs => ?_) fun hs => ?_
    · simpa [hdark hs] using hne
    · simpa [hlight hs] using hne

/-! ### What one step can do to one uplink -/

/-- The operations of Uplink Watch on one record. -/
inductive UplinkMove (v : Uplink) : Uplink → Prop where
  | stays : UplinkMove v v
  | line (level : Bool) : UplinkMove v (v.setLine level)
  | code (c : ScanCode) : UplinkMove v (v.setCode c)
  | qualifyExpired : UplinkMove v v.qualifyExpired
  | restoreExpired : UplinkMove v v.restoreExpired
  | holdExpired : UplinkMove v v.holdExpired
  | windowExpired : UplinkMove v v.windowExpired
  | adminClear : UplinkMove v v.adminClear
  | adminSet : UplinkMove v v.adminSet
  | configured (c : UplinkConfig) : UplinkMove v (v.configure c)

theorem configure_ok {v : Uplink} (c : UplinkConfig) (h : UplinkOk v) : UplinkOk (v.configure c) := by
  obtain ⟨hraw, hdark, hqualify, honset, hwindow, hadmin⟩ := h
  have hmoved : InputsMoved
      (if c.flapLimit = v.config.flapLimit then { v with config := c }
       else { v with config := c, onset := 0, window := .stopped }) := by
    split
    next hl => exact ⟨hdark, hqualify, by simpa only [OnsetBounded, hl] using honset, hwindow, hadmin⟩
    next => exact ⟨hdark, hqualify, onsetBounded_of_zero rfl, by simp [WindowInStep], fun _ => rfl⟩
  simp only [Uplink.configure]
  split
  next hsame =>
    refine (uplinkOk_iff _).mpr ⟨?_, hmoved⟩
    split <;> simpa only [Uplink.rawDark, hsame.1, hsame.2] using hraw
  next => exact reevaluate_ok hmoved

/-- Every operation of Uplink Watch keeps the record of an uplink in order. -/
theorem UplinkMove.keeps_ok {v w : Uplink} (m : UplinkMove v w) (h : UplinkOk v) : UplinkOk w := by
  have henter := mayEnter_of_uplinkOk h
  obtain ⟨hraw, hdark, hqualify, honset, hwindow, hadmin⟩ := id h
  have hmoved : InputsMoved v := ⟨hdark, hqualify, honset, hwindow, hadmin⟩
  cases m with
  | stays => exact h
  | line level =>
    unfold Uplink.setLine; split
    · exact h
    · exact reevaluate_ok hmoved
  | code c =>
    unfold Uplink.setCode; split
    · exact h
    · exact reevaluate_ok hmoved
  | qualifyExpired =>
    unfold Uplink.qualifyExpired; split
    next hs => exact enterDark_ok henter (hdark.1 (.inl hs.1))
    next => exact h
  | restoreExpired =>
    unfold Uplink.restoreExpired; split
    next hs => exact enterLit_ok henter (hdark.2 (.inr hs.1))
    next => exact h
  | holdExpired =>
    unfold Uplink.holdExpired; split
    · exact enterByDarkness_ok henter
    · exact h
  | windowExpired =>
    unfold Uplink.windowExpired; split
    · exact ⟨hraw, hdark, hqualify, onsetBounded_of_zero rfl, by simp [WindowInStep], fun _ => rfl⟩
    · exact h
  | adminClear =>
    unfold Uplink.adminClear; split
    · exact h
    · exact ⟨hraw, by simp [DarknessInStep], by simp [QualifyInStep], onsetBounded_of_zero rfl, by simp [WindowInStep], fun _ => rfl⟩
  | adminSet =>
    unfold Uplink.adminSet; split
    · exact enterByDarkness_ok henter
    · exact h
  | configured c => exact configure_ok c h

/-- A record right after a full reset is in order. -/
theorem uplinkOk_reset : UplinkOk Uplink.reset := by decide

end Sys2Proof.Proofs
end

section
/-! PROOFS. What one command can do to the uplinks, the scan, the live set, the settled set and what the ports hold of Down Vectors. Every
command's meaning is made of the changes of `Change` (`exec_change`), so an invariant of these parts is proved once for each change. -/
namespace Sys2Proof.Proofs
open Sys2Proof.Machine Sys2Proof.Safety

/-! ### The changes -/

/-- What a scan command can do to the scan receiver. -/
inductive ScanMove (c : Scan) : Scan → Prop where
  | started : c.state ≠ .off → ScanMove c { c with inFrame := true, driven := loadPulse }
  | judgedGood : c.state ≠ .off → ScanMove c { c with state := .tracking, bad := 0, inFrame := false, driven := frameEdges }
  | judgedBad : c.state ≠ .off → ScanMove c
      { c with state := if c.state == .tracking && min Config.staleAt (c.bad + 1) == Config.staleAt then .stale else c.state
               bad := min Config.staleAt (c.bad + 1), inFrame := false, driven := frameEdges }
  | enabled (p : BitVec 16) :
      ScanMove c { state := .tracking, period := clampPeriod p, bad := 0, inFrame := true, driven := loadPulse }
  | disabled (p : BitVec 16) : ScanMove c { state := .off, period := clampPeriod p, bad := 0, inFrame := false, driven := [] }
  | period (p : BitVec 16) : ScanMove c { c with period := clampPeriod p }

/-- Two port records that agree in what a Down Vector and its acknowledgement speak of. -/
structure SameVector (p q : Port) : Prop where
  state : q.state = p.state
  ackUp : q.ackUp = p.ackUp
  pendingFlag : q.pendingFlag = p.pendingFlag
  outstanding : q.outstanding = p.outstanding

/-- Two states that agree in Uplink Watch, the settled set, the vectors of both ports and the full-reset pin. -/
structure SameWatch (s t : State) : Prop where
  uplinks : t.uplinks = s.uplinks
  scan : t.scan = s.scan
  live : t.live = s.live
  settled : t.settled = s.settled
  porst : t.porst = s.porst
  port : ∀ i, SameVector (s.port i) (t.port i)

/-- The state after the Vector Ack that matches vector `v` of port `i` (R99). -/
def ackTaken (i : PortId) (v : DownVector) (s : State) : State :=
  let p' := (s.port i).acknowledge v s.live s.ackTimeout
  let s1 := (s.setPort i p').raiseIf (p'.state != (s.port i).state) flagPort
  if p'.state = .up then resettle s1 else s1

/-- The changes the commands are made of, but for the two edges of PORST_N. -/
inductive Change : State → State → Prop where
  | quiet {s t : State} : SameWatch s t → Change s t
  | uplinks {s : State} (us : Vector Uplink 32) : (∀ u : Fin 32, UplinkMove s.uplinks[u] us[u]) → Change s (watchStep us s)
  | scan {s : State} (c : Scan) : ScanMove s.scan c → Change s { s with scan := c }
  | countersCleared {s : State} : Change s (clearCounters s)
  | synced {s : State} (i : PortId) : (s.port i).state = .down → Change s (enterSync i s)
  | portReset {s : State} (i : PortId) (new : PortState) : new = .down ∨ new = .fault → Change s (portReset i new s)
  | acked {s : State} (i : PortId) (v : DownVector) : Change s (ackTaken i v s)
  | fullReset {s : State} : Change s s.fullReset
  | trans {s m t : State} : Change s m → Change m t → Change s t

/-! ### Quiet changes -/

theorem SameVector.refl (p : Port) : SameVector p p := ⟨rfl, rfl, rfl, rfl⟩

theorem SameVector.trans {p q r : Port} (h : SameVector p q) (h' : SameVector q r) : SameVector p r :=
  ⟨h'.state.trans h.state, h'.ackUp.trans h.ackUp, h'.pendingFlag.trans h.pendingFlag, h'.outstanding.trans h.outstanding⟩

theorem SameVector.serves {p q : Port} (h : SameVector p q) : q.serves = p.serves := by simp [Port.serves, h.state]

theorem SameVector.admits {p q : Port} (h : SameVector p q) : q.admits = p.admits := by simp [Port.admits, h.state, h.ackUp]

theorem SameWatch.refl (s : State) : SameWatch s s := ⟨rfl, rfl, rfl, rfl, rfl, fun _ => .refl _⟩

theorem SameWatch.trans {s m t : State} (h : SameWatch s m) (h' : SameWatch m t) : SameWatch s t :=
  ⟨h'.uplinks.trans h.uplinks, h'.scan.trans h.scan, h'.live.trans h.live, h'.settled.trans h.settled, h'.porst.trans h.porst,
    fun i => (h.port i).trans (h'.port i)⟩

/-- A change of one port that keeps its vectors. -/
theorem SameWatch.setPort {s : State} {i : PortId} {p : Port} (h : SameVector (s.port i) p) : SameWatch s (s.setPort i p) := by
  refine ⟨by simp, by simp, by simp, by simp, by simp, fun j => ?_⟩
  by_cases hj : i = j
  · subst hj; simpa using h
  · rw [State.port_setPort_ne s p hj]; exact .refl _

/-- A change outside Uplink Watch, the settled set, the ports and the full-reset pin. -/
theorem SameWatch.of_fields {s t : State} (huplinks : t.uplinks = s.uplinks) (hscan : t.scan = s.scan) (hlive : t.live = s.live)
    (hsettled : t.settled = s.settled) (hporst : t.porst = s.porst) (h0 : t.lp0 = s.lp0) (h1 : t.lp1 = s.lp1) : SameWatch s t := by
  refine ⟨huplinks, hscan, hlive, hsettled, hporst, fun i => ?_⟩
  cases i
  · rw [State.port_lp0, State.port_lp0, h0]; exact .refl _
  · rw [State.port_lp1, State.port_lp1, h1]; exact .refl _

/-- The parts that `SameWatch` does not look at take any values. -/
theorem SameWatch.outside {s : State} {table : Table} {walk : Walk} {timeout : Byte} {mgmt : Mgmt} {link : Link} {mrst : Bool}
    {pending : List Instr} : SameWatch s { s with table := table, walk := walk, ackTimeout := timeout, mgmt := mgmt, link := link
                                                  mrst := mrst, pending := pending } :=
  .of_fields rfl rfl rfl rfl rfl rfl rfl

section Quiet
variable {s t : State} (h : SameWatch s t)
include h

/-- A further change outside Uplink Watch, the settled set, the ports and the full-reset pin. -/
theorem SameWatch.then_fields {r : State} (huplinks : r.uplinks = t.uplinks) (hscan : r.scan = t.scan) (hlive : r.live = t.live)
    (hsettled : r.settled = t.settled) (hporst : r.porst = t.porst) (h0 : r.lp0 = t.lp0) (h1 : r.lp1 = t.lp1) : SameWatch s r :=
  h.trans (.of_fields huplinks hscan hlive hsettled hporst h0 h1)

theorem SameWatch.formReply (status : ReplyStatus) (payload : List Byte) : SameWatch s (formReply status payload t) :=
  h.trans .outside

theorem SameWatch.groupReply (status : ReplyStatus) (g : Nat) : SameWatch s (groupReply status g t) := h.formReply ..

theorem SameWatch.beginServing (r : Request) : SameWatch s (beginServing r t) := h.trans .outside

theorem SameWatch.raise (f : Byte) : SameWatch s (t.raise f) := h.trans .outside

theorem SameWatch.raiseIf (c : Bool) (f : Byte) : SameWatch s (t.raiseIf c f) := by apply h.then_fields <;> simp

theorem SameWatch.barrierCheck : SameWatch s (barrierCheck t) := by apply h.then_fields <;> simp

theorem SameWatch.startIfIdle : SameWatch s (startIfIdle t) := by apply h.then_fields <;> simp

theorem SameWatch.endJob : SameWatch s (endJob t) := by apply h.then_fields <;> simp [Machine.endJob]

theorem SameWatch.countVisit : SameWatch s (countVisit t) := h.trans .outside

theorem SameWatch.setGroup (g : Nat) (r : Group) : SameWatch s (t.setGroup g r) := h.trans .outside

theorem SameWatch.relink (g : Nat) (old new : UplinkSet) : SameWatch s (relink g old new t) := by
  apply h.then_fields <;> simp

theorem SameWatch.completeGroup (g : Nat) : SameWatch s (completeGroup g t) := by apply h.then_fields <;> simp

end Quiet

theorem SameVector.startAckTimer {p q : Port} (h : SameVector p q) (timeout : Byte) : SameVector p (q.startAckTimer timeout) := by
  rw [Port.startAckTimer_eq]; exact h.trans ⟨rfl, rfl, rfl, rfl⟩

theorem SameVector.sendRetract {p q : Port} (h : SameVector p q) (timeout : Byte) : SameVector p (q.sendRetract timeout) := by
  rcases q.sendRetract_cases timeout with ⟨e, -, -, hsent⟩ | ⟨-, hkept⟩
  · rw [hsent]
    refine .startAckTimer ?_ _
    exact h.trans ⟨rfl, rfl, rfl, rfl⟩
  · rw [hkept]; exact h

theorem SameVector.takeChange (g : Nat) (n : Generation) (timeout : Byte) (p : Port) : SameVector p (p.takeChange g n timeout) := by
  have hslot : SameVector p (if p.holdsCopy g then p.emptySlot g else p) := by split <;> exact ⟨rfl, rfl, rfl, rfl⟩
  simp only [Port.takeChange]
  split
  · refine .sendRetract ?_ _
    exact hslot.trans ⟨rfl, rfl, rfl, rfl⟩
  · split
    · exact .sendRetract (hslot.trans ⟨by simp [*], by simp [*], by simp [*], by simp [*]⟩) _
    · exact .refl p

theorem SameWatch.reportChange {s t : State} (h : SameWatch s t) (g : Nat) (n : Generation) : SameWatch s (reportChange g n t) := by
  refine h.trans ⟨rfl, rfl, rfl, rfl, rfl, fun i => ?_⟩
  cases i <;> exact .takeChange _ _ _ _

theorem SameWatch.persist {s t : State} (h : SameWatch s t) (g : Nat) (map : BucketMap) : SameWatch s (persist g map t) := by
  rcases persist_cases g map t with ⟨-, hkept⟩ | ⟨-, hwritten⟩
  · rw [hkept]; exact h
  · rw [hwritten]; exact (h.setGroup ..).reportChange ..

/-! ### The frames and accesses around a meaning -/

/-- Every use of this meaning is a change. -/
def Makes (f : State → State) : Prop := ∀ s, Change s (f s)

theorem Change.refl (s : State) : Change s s := .quiet (.refl s)

theorem change_unlessReset {s t : State} {f : State → State} (h : unlessReset s f = .next t) (hf : Makes f) : Change s t := by
  rcases unlessReset_next h with ⟨-, rfl⟩ | ⟨-, rfl⟩
  · exact .refl t
  · exact hf s

theorem makes_judgeFrame {n : Nat} {serve : State → State} (hserve : Makes serve) : Makes (judgeFrame n serve) := by
  intro s
  rcases judgeFrame_cases n serve s with ⟨-, h⟩ | ⟨-, -, h⟩ | ⟨-, -, h⟩ <;> rw [h]
  · exact .refl s
  · refine .trans ?_ (hserve _)
    exact .quiet .outside
  · exact .quiet .outside

theorem makes_takeRequest {α : Type} {dec : List Byte → Option α} {rest : List Byte} {serve : α → State → State}
    (hserve : ∀ a, Makes (serve a)) : Makes (takeRequest dec rest serve) := by
  refine makes_judgeFrame fun s => ?_
  split
  · exact .quiet (.formReply (.refl _) ..)
  · exact hserve _ s

theorem makes_takeOwnRequest {α : Type} {dec : List Byte → Option α} {own : α → Bool} {rest : List Byte}
    {serve : α → State → State} (hserve : ∀ a, Makes (serve a)) : Makes (takeOwnRequest dec own rest serve) := by
  intro s
  unfold takeOwnRequest
  split
  · exact makes_takeRequest hserve s
  · exact .refl s

theorem makes_whenReady {serve : State → State} (hserve : Makes serve) : Makes (whenReady serve) := by
  intro s
  unfold whenReady
  split
  · exact hserve s
  · exact .quiet (.formReply (.refl _) ..)

theorem makes_access {q : Requester} {f : State → State} (hf : Makes f) : Makes (access q f) := by
  intro s
  rcases access_cases q f s with ⟨-, h⟩ | ⟨-, h⟩ <;> rw [h]
  · refine .trans ?_ (hf _)
    exact .quiet .outside
  · exact .refl s

theorem makes_formReply {status : ReplyStatus} {payload : State → List Byte} : Makes fun s => formReply status (payload s) s :=
  fun s => .quiet (.formReply (.refl s) ..)

theorem makes_endJob : Makes endJob := fun s => .quiet (.endJob (.refl s))

/-! ### The meanings of the ports -/

theorem makes_protocolError (i : PortId) : Makes (protocolError i) := by
  intro s
  unfold protocolError
  split
  · exact .portReset i .fault (.inr rfl)
  · exact .refl s

/-- A port in DOWN whose lane holds its lock enters SYNC. -/
theorem change_syncIfLocked {s : State} (i : PortId) (hdown : (s.port i).state = .down) :
    Change s (if (s.port i).locked then enterSync i s else s) := by
  split
  · exact .synced i hdown
  · exact .refl s

/-- The end of a full reset: each lane that held its lock enters SYNC. -/
theorem change_takeHeldLocks {s : State} (h0 : s.lp0.state = .down) (h1 : s.lp1.state = .down) : Change s (takeHeldLocks s) := by
  refine .trans (change_syncIfLocked .lp0 h0) (change_syncIfLocked .lp1 ?_)
  split <;> simpa [enterSync] using h1

theorem change_requestedReset (s : State) : Change s (requestedReset s) := .trans .fullReset (change_takeHeldLocks rfl rfl)

theorem change_lock (i : PortId) (b : Bool) (s : State) : Change s (s.setPort i { s.port i with locked := b }) :=
  .quiet (.setPort ⟨rfl, rfl, rfl, rfl⟩)

theorem makes_readFrame (clocked : Nat) : Makes (readFrame clocked) := by
  intro s
  unfold readFrame
  split
  · exact .refl s
  · split
    · simp only
      split
      · exact .trans (.trans (.quiet .outside) (change_requestedReset _))
          (.quiet .outside)
      · exact .quiet .outside
    · exact .quiet .outside

theorem makes_serveResolve (i : PortId) : Makes (serveResolve i) := by
  intro s
  unfold serveResolve
  simp only
  split
  · exact .refl s
  · refine .quiet (.setPort ?_)
    unfold Port.joinReady
    split <;> exact ⟨rfl, rfl, rfl, rfl⟩

theorem makes_takeRetractDone (i : PortId) (e : RetractEntry) : Makes (takeRetractDone i e) := by
  refine fun s => .quiet (.barrierCheck (.completeGroup (.setPort ?_) _))
  refine .trans (.sendRetract (q := { s.port i with retracts := (s.port i).retracts.eraseP (·.mark == .sent) }) ?_ s.ackTimeout) ?_
  · exact ⟨rfl, rfl, rfl, rfl⟩
  · exact ⟨rfl, rfl, rfl, rfl⟩

/-! ### The meanings of the Path Table and the Walk Engine -/

theorem makes_presentGroupRequest (g : Nat) (members : Option (List Member)) (r : GroupRequest) :
    Makes (presentGroupRequest g members r) := by
  refine makes_whenReady fun s => ?_
  split
  · exact .quiet (.formReply (.refl _) ..)
  · split
    · exact .quiet (.formReply (.refl _) ..)
    · exact .quiet (.beginServing (.refl _) ..)

theorem makes_installAccess (f : InstallFields) : Makes (installAccess f) := by
  intro s
  unfold installAccess
  simp only
  split
  · exact .quiet (.groupReply (.refl _) ..)
  · exact .quiet (.groupReply (.refl _) ..)
  · exact .quiet (.groupReply (.reportChange (.relink (.setGroup (.refl s) ..) ..) ..) ..)

theorem makes_modifyAccess (f : ModifyFields) : Makes (modifyAccess f) := by
  intro s
  unfold modifyAccess
  simp only
  split
  · exact .quiet (.groupReply (.refl _) ..)
  · split
    · exact .quiet (.groupReply (.refl _) ..)
    · exact .quiet (.groupReply (.reportChange (.relink (.setGroup (.refl s) ..) ..) ..) ..)

theorem makes_retireAccess (g : Nat) (expected : Generation) : Makes (retireAccess g expected) := by
  intro s
  unfold retireAccess
  simp only
  split
  · exact .quiet (.groupReply (.refl _) ..)
  · exact .quiet (.groupReply (.completeGroup (.reportChange (.relink (.setGroup (.refl s) ..) ..) ..) ..) ..)

theorem makes_surveyAccess (v : Survey) : Makes (surveyAccess v) := by
  intro s
  unfold surveyAccess
  simp only
  split
  · exact .quiet (.formReply (.refl _) ..)
  · exact .quiet (.beginServing (.refl _) ..)

theorem makes_rebalance (first count : Nat) : Makes (rebalance first count) := by
  intro s
  unfold rebalance
  split
  · exact .quiet (.formReply (.refl _) ..)
  · split
    · exact .quiet (.formReply (.refl _) ..)
    · refine .quiet (.formReply (.startIfIdle ?_) ..)
      exact .outside

theorem makes_uplinkVisit (u : Fin 32) (g : Nat) : Makes (uplinkVisit u g) := by
  intro s
  have hvisit (map : BucketMap) : SameWatch s (countVisit (persist g map s)) := .countVisit (.persist (.refl s) ..)
  simp only [uplinkVisit]
  split
  · exact .quiet ((hvisit _).trans .outside)
  · exact .quiet (hvisit _).endJob

theorem makes_sweepJobVisit (first count next : Nat) : Makes (sweepJobVisit first count next) := by
  intro s
  have hvisit : SameWatch s (countVisit
      (if (s.group next).state = .active then persist next (sweepMap (s.group next) s.settled) s else s)) := by
    refine .countVisit ?_
    split
    · exact .persist (.refl s) ..
    · exact .refl s
  simp only [sweepJobVisit]
  generalize countVisit _ = m at hvisit ⊢
  split
  · exact .quiet (hvisit.raise _).endJob
  · exact .quiet (hvisit.trans .outside)

theorem makes_takeBarrier (f : BarrierFields) : Makes (takeBarrier f) := fun _ =>
  .quiet (.barrierCheck (.outside))

/-! ### The meanings of Uplink Watch -/

theorem makes_stepUplink (u : Fin 32) {f : Uplink → Uplink} (hf : ∀ v, UplinkMove v (f v)) : Makes (stepUplink u f) := by
  refine fun s => .uplinks _ fun w => ?_
  simp only [Fin.getElem_fin, Vector.getElem_set]
  split
  next h =>
    obtain rfl := Fin.ext h
    exact hf _
  next => exact .stays

theorem makes_stepUplinks (us : UplinkSet) {f : Fin 32 → Uplink → Uplink} (hf : ∀ u v, UplinkMove v (f u v)) :
    Makes (stepUplinks us f) := by
  refine fun s => .uplinks _ fun w => ?_
  simp only [Fin.getElem_fin, Vector.getElem_ofFn]
  split
  · exact hf w _
  · exact .stays

theorem change_goodFrame {s : State} (bits : BitVec 68) (hon : s.scan.state ≠ .off) : Change s (goodFrame bits s) :=
  .trans (.trans (.scan _ (.judgedGood hon)) (.quiet (.raiseIf (.refl _) ..))) (makes_stepUplinks _ (fun _ _ => .code _) _)

theorem change_badFrame {s : State} (hon : s.scan.state ≠ .off) : Change s (badFrame s) :=
  .trans (.scan _ (.judgedBad hon)) (.quiet (.raiseIf (.refl _) ..))

theorem makes_enableScan (period : BitVec 16) : Makes (enableScan period) := by
  intro s
  unfold enableScan
  split
  · exact .trans (.scan _ (.enabled period)) (makes_stepUplinks _ (fun _ _ => .code _) _)
  · exact .scan _ (.period period)

theorem makes_disableScan (period : BitVec 16) : Makes (disableScan period) := by
  intro s
  unfold disableScan
  split
  · exact .scan _ (.period period)
  · exact .trans (.trans (.scan _ (.disabled period)) (.quiet (.raiseIf (.refl _) ..))) (makes_stepUplinks _ (fun _ _ => .code _) _)

/-! ### Every command -/

theorem change_scanFrameStart {s t : State} (h : execScanFrameStart s = .next t) : Change s t := by
  refine change_unlessReset h fun s => ?_
  split
  · exact .refl s
  next hon => exact .scan _ (.started hon)

theorem change_scanFrameJudged {bits : BitVec 68} {s t : State} (h : execScanFrameJudged bits s = .next t) : Change s t := by
  refine change_unlessReset h fun s => ?_
  split
  · exact .refl s
  next hon =>
    have hon : s.scan.state ≠ .off := fun hoff => hon (.inl hoff)
    split
    · exact change_goodFrame bits hon
    · exact change_badFrame hon

theorem change_installGroup {stage : AccessStage} {s t : State} (h : execInstallGroup stage s = .next t) : Change s t := by
  refine change_unlessReset h fun s => ?_
  split
  · exact makes_takeRequest (fun f => makes_presentGroupRequest _ _ _) s
  · split
    · exact makes_access (makes_installAccess _) s
    · exact .refl s

theorem change_modifyGroup {stage : AccessStage} {s t : State} (h : execModifyGroup stage s = .next t) : Change s t := by
  refine change_unlessReset h fun s => ?_
  split
  · exact makes_takeRequest (fun f => makes_presentGroupRequest _ _ _) s
  · split
    · exact makes_access (makes_modifyAccess _) s
    · exact .refl s

theorem change_retireGroup {stage : AccessStage} {s t : State} (h : execRetireGroup stage s = .next t) : Change s t := by
  refine change_unlessReset h fun s => ?_
  split
  · exact makes_takeRequest (fun f => makes_presentGroupRequest _ _ _) s
  · split
    · exact makes_access (makes_retireAccess _ _) s
    · exact .refl s

theorem change_readGroup {stage : AccessStage} {s t : State} (h : execReadGroup stage s = .next t) : Change s t := by
  refine change_unlessReset h fun s => ?_
  split
  · exact makes_takeRequest (fun f => makes_presentGroupRequest _ _ _) s
  · split
    · exact makes_access (makes_formReply) s
    · exact .refl s

theorem change_rangeSurvey {rest : List Byte} {s t : State} (h : execRangeSurvey rest s = .next t) : Change s t := by
  refine change_unlessReset h (makes_takeRequest fun f => makes_whenReady fun s => ?_)
  split
  · exact .quiet (.formReply (.refl _) ..)
  · exact .quiet (.beginServing (.refl _) ..)

theorem change_rangeSurveyAccess {s t : State} (h : execRangeSurveyAccess s = .next t) : Change s t := by
  refine change_unlessReset h fun s => ?_
  split
  · exact makes_access (makes_surveyAccess _) s
  · exact .refl s

theorem change_uplinkJobVisit {s t : State} (h : execUplinkJobVisit s = .next t) : Change s t := by
  refine change_unlessReset h fun s => ?_
  split
  · exact makes_access (makes_uplinkVisit _ _) s
  · exact .refl s

theorem change_closingAccess {s t : State} (h : execClosingAccess s = .next t) : Change s t := by
  refine change_unlessReset h fun s => ?_
  split
  · exact makes_access (makes_endJob) s
  · exact .refl s

theorem change_sweepVisit {s t : State} (h : execSweepVisit s = .next t) : Change s t := by
  refine change_unlessReset h fun s => ?_
  split
  · exact makes_access (makes_sweepJobVisit _ _ _) s
  · exact .refl s

theorem change_barrierTimerExpiry {s t : State} (h : execBarrierTimerExpiry s = .next t) : Change s t := by
  refine change_unlessReset h fun s => ?_
  split
  · split
    · exact .refl s
    · exact .quiet .outside
  · exact .refl s

theorem change_readCountersClear {rest : List Byte} {s t : State} (h : execReadCountersClear rest s = .next t) : Change s t :=
  change_unlessReset h (makes_takeOwnRequest fun _ _ => .trans .countersCleared (.quiet (.formReply (.refl _) ..)))

theorem change_unknownRequestKind {kind : Byte} {rest : List Byte} {s t : State}
    (h : execUnknownRequestKind kind rest s = .next t) : Change s t := by
  refine change_unlessReset h fun s => ?_
  split
  · exact makes_judgeFrame (makes_formReply) s
  · exact .refl s

theorem change_requestDropped {frame : List Byte} {s t : State} (h : execRequestDropped frame s = .next t) : Change s t := by
  refine change_unlessReset h fun s => ?_
  split
  · exact makes_judgeFrame (fun s => .refl s) s
  · exact .refl s

theorem change_initSweepEnd {s t : State} (h : execInitSweepEnd s = .next t) : Change s t := by
  refine change_unlessReset h fun s => ?_
  split
  · exact .refl s
  · exact .quiet .outside

theorem change_laneLockGained {i : PortId} {s t : State} (h : execLaneLockGained i s = .next t) : Change s t := by
  cases h
  split
  · exact change_lock i true s
  · split
    next hdown => exact .trans (change_lock i true s) (.synced i (by simpa using hdown))
    next => exact change_lock i true s

theorem change_laneLockLost {i : PortId} {s t : State} (h : execLaneLockLost i s = .next t) : Change s t := by
  cases h
  split
  · exact change_lock i false s
  · split
    · exact change_lock i false s
    · exact .trans (change_lock i false s) (.portReset i .down (.inl rfl))

theorem change_resolve {i : PortId} {index : BitVec 16} {s t : State} (h : execResolve i index s = .next t) : Change s t := by
  refine change_unlessReset h fun s => ?_
  simp only
  split
  · exact .refl s
  · split
    · exact makes_protocolError i s
    · exact .quiet (.setPort ⟨rfl, rfl, rfl, rfl⟩)

theorem change_vectorAck {i : PortId} {sequence : Byte} {s t : State} (h : execVectorAck i sequence s = .next t) :
    Change s t := by
  refine change_unlessReset h fun s => ?_
  simp only
  split
  · exact .refl s
  · split
    · exact makes_protocolError i s
    · split
      · exact makes_protocolError i s
      · exact .acked i _

theorem change_retractDone {i : PortId} {group : BitVec 16} {s t : State} (h : execRetractDone i group s = .next t) :
    Change s t := by
  refine change_unlessReset h fun s => ?_
  simp only
  split
  · split
    · exact makes_protocolError i s
    · split
      · exact makes_takeRetractDone i _ s
      · exact makes_protocolError i s
  · exact makes_protocolError i s
  · exact .refl s
  · exact .refl s

theorem change_unknownKind {i : PortId} {bytes : List Byte} {s t : State} (h : execUnknownKind i bytes s = .next t) :
    Change s t := by
  refine change_unlessReset h fun s => ?_
  split
  · exact makes_protocolError i s
  · exact .refl s

theorem change_wrongLengthMessage {i : PortId} {bytes : List Byte} {s t : State}
    (h : execWrongLengthMessage i bytes s = .next t) : Change s t := by
  refine change_unlessReset h fun s => ?_
  split
  · exact makes_protocolError i s
  · exact .refl s

theorem change_ackTimerExpiry {i : PortId} {s t : State} (h : execAckTimerExpiry i s = .next t) : Change s t := by
  refine change_unlessReset h fun s => ?_
  split
  · exact .refl s
  · exact makes_protocolError i s

theorem change_answerLeaves {i : PortId} {s t : State} (h : execAnswerLeaves i s = .next t) : Change s t := by
  refine change_unlessReset h fun s => ?_
  split
  · exact .quiet (.setPort ⟨rfl, rfl, rfl, rfl⟩)
  · exact .refl s

theorem change_messageLeaves {i : PortId} {s t : State} (h : execMessageLeaves i s = .next t) : Change s t := by
  refine change_unlessReset h fun s => ?_
  split
  · exact .refl s
  · exact .refl s
  · exact .quiet (.setPort ⟨rfl, rfl, rfl, rfl⟩)

/-- The states the two edges of PORST_N lead to. -/
inductive PorstEdge (s : State) : State → Prop where
  | asserted : s.porst = false → PorstEdge s { s.fullReset with porst := true }
  | released : s.porst = true → PorstEdge s (takeHeldLocks { s with porst := false })

/-- What a command does: a change of `Change`, or an edge of PORST_N. -/
theorem exec_change (c : Instr) {s t : State} (h : exec c s = .next t) : Change s t ∨ PorstEdge s t := by
  cases c with
  | porstNAssert =>
    cases h
    split
    · exact .inl (.refl s)
    next hp => exact .inr (.asserted (by simpa using hp))
  | porstNRelease =>
    cases h
    split
    next hp => exact .inr (.released hp)
    · exact .inl (.refl s)
  | filteredLineLevelChange u level => exact .inl (change_unlessReset h (makes_stepUplink u fun _ => .line level))
  | scanFrameStart => exact .inl (change_scanFrameStart h)
  | scanFrameJudged bits => exact .inl (change_scanFrameJudged h)
  | qualifyTimerExpiry u => exact .inl (change_unlessReset h (makes_stepUplink u fun _ => .qualifyExpired))
  | restoreTimerExpiry u => exact .inl (change_unlessReset h (makes_stepUplink u fun _ => .restoreExpired))
  | holdTimerExpiry u => exact .inl (change_unlessReset h (makes_stepUplink u fun _ => .holdExpired))
  | windowTimerExpiry u => exact .inl (change_unlessReset h (makes_stepUplink u fun _ => .windowExpired))
  | configureUplink rest =>
    exact .inl (change_unlessReset h (makes_takeRequest fun f s =>
      .trans (makes_stepUplink f.1 (fun _ => .configured _) s) (.quiet (.formReply (.refl _) ..))))
  | setAdminClear rest =>
    exact .inl (change_unlessReset h (makes_takeOwnRequest fun f s =>
      .trans (makes_stepUplinks f.2 (fun _ _ => .adminClear) s) (.quiet (.formReply (.refl _) ..))))
  | setAdminSet rest =>
    exact .inl (change_unlessReset h (makes_takeOwnRequest fun f s =>
      .trans (makes_stepUplinks f.2 (fun _ _ => .adminSet) s) (.quiet (.formReply (.refl _) ..))))
  | configureScanEnable rest =>
    exact .inl (change_unlessReset h (makes_takeOwnRequest fun f s =>
      .trans (makes_enableScan f.2 s) (.quiet (.formReply (.refl _) ..))))
  | configureScanDisable rest =>
    exact .inl (change_unlessReset h (makes_takeOwnRequest fun f s =>
      .trans (makes_disableScan f.2 s) (.quiet (.formReply (.refl _) ..))))
  | readUplink rest => exact .inl (change_unlessReset h (makes_takeRequest fun u => makes_formReply))
  | installGroup stage => exact .inl (change_installGroup h)
  | modifyGroup stage => exact .inl (change_modifyGroup h)
  | retireGroup stage => exact .inl (change_retireGroup h)
  | readGroup stage => exact .inl (change_readGroup h)
  | rangeSurvey rest => exact .inl (change_rangeSurvey h)
  | rangeSurveyAccess => exact .inl (change_rangeSurveyAccess h)
  | rebalanceRange rest => exact .inl (change_unlessReset h (makes_takeRequest fun f => makes_whenReady (makes_rebalance _ _)))
  | uplinkJobVisit => exact .inl (change_uplinkJobVisit h)
  | closingAccess => exact .inl (change_closingAccess h)
  | sweepVisit => exact .inl (change_sweepVisit h)
  | barrier rest => exact .inl (change_unlessReset h (makes_takeRequest fun f => makes_whenReady (makes_takeBarrier f)))
  | barrierTimerExpiry => exact .inl (change_barrierTimerExpiry h)
  | identify rest => exact .inl (change_unlessReset h (makes_takeRequest fun _ => makes_formReply))
  | readStatus rest => exact .inl (change_unlessReset h (makes_takeRequest fun _ => makes_formReply))
  | configurePorts rest =>
    exact .inl (change_unlessReset h (makes_takeRequest fun _ _ => .quiet .outside))
  | readEvents rest =>
    exact .inl (change_unlessReset h (makes_takeRequest fun _ _ => .quiet .outside))
  | setEventEnablesSet rest =>
    exact .inl (change_unlessReset h (makes_takeOwnRequest fun _ _ => .quiet .outside))
  | setEventEnablesClear rest =>
    exact .inl (change_unlessReset h (makes_takeOwnRequest fun _ _ => .quiet .outside))
  | readCounters rest =>
    exact .inl (change_unlessReset h (makes_takeOwnRequest fun _ => makes_formReply))
  | readCountersClear rest => exact .inl (change_readCountersClear h)
  | fullResetRequest rest =>
    exact .inl (change_unlessReset h (makes_takeRequest fun _ _ => .quiet .outside))
  | unknownRequestKind kind rest => exact .inl (change_unknownRequestKind h)
  | requestDropped frame => exact .inl (change_requestDropped h)
  | readFrame clocked => exact .inl (change_unlessReset h (makes_readFrame clocked))
  | mrstNAssert => cases h; exact .inl (.quiet .outside)
  | mrstNRelease => cases h; exact .inl (.quiet .outside)
  | initSweepEnd => exact .inl (change_initSweepEnd h)
  | laneLockGained i => exact .inl (change_laneLockGained h)
  | laneLockLost i => exact .inl (change_laneLockLost h)
  | resolve i index => exact .inl (change_resolve h)
  | resolveAccess i => exact .inl (change_unlessReset h (makes_access (makes_serveResolve i)))
  | vectorAck i sequence => exact .inl (change_vectorAck h)
  | retractDone i group => exact .inl (change_retractDone h)
  | unknownKind i bytes => exact .inl (change_unknownKind h)
  | ackTimerExpiry i => exact .inl (change_ackTimerExpiry h)
  | answerLeaves i => exact .inl (change_answerLeaves h)
  | messageLeaves i => exact .inl (change_messageLeaves h)
  | wrongLengthMessage i bytes => exact .inl (change_wrongLengthMessage h)

/-- A step runs the command at the front of the queue, which has left it. -/
theorem step_cases {s t : State} (h : step s = .next t) :
    t = s ∨ ∃ c rest, exec c { s with pending := rest } = .next t := by
  unfold step at h
  split at h
  · cases h; exact .inl rfl
  next c rest _ => exact .inr ⟨c, rest, h⟩

/-- A predicate that does not look at the queue is kept by every step when it is kept by every change and every edge of PORST_N. -/
theorem keptByEveryStep_of_changes {Inv : State → Prop} (hqueue : ∀ s q, Inv s → Inv { s with pending := q })
    (hchange : ∀ s t, Change s t → Inv s → Inv t) (hedge : ∀ s t, PorstEdge s t → Inv s → Inv t) :
    Claims.KeptByEveryStep Inv := by
  intro s t hs h
  rcases step_cases h with rfl | ⟨c, rest, hexec⟩
  · exact hs
  · rcases exec_change c hexec with hmade | hpin
    · exact hchange _ _ hmade (hqueue s rest hs)
    · exact hedge _ _ hpin (hqueue s rest hs)

end Sys2Proof.Proofs
end

section
/-! PROOFS. Every step keeps the uplink records and the scan in order (O4). -/
namespace Sys2Proof.Proofs
open Sys2Proof.Machine Sys2Proof.Safety Sys2Proof.Claims

/-! ### What the port operations leave of Uplink Watch -/

@[simp] theorem enterSync_uplinks (i : PortId) (s : State) : (enterSync i s).uplinks = s.uplinks := by simp [enterSync]
@[simp] theorem enterSync_scan (i : PortId) (s : State) : (enterSync i s).scan = s.scan := by simp [enterSync]
@[simp] theorem enterSync_live (i : PortId) (s : State) : (enterSync i s).live = s.live := by simp [enterSync]
@[simp] theorem enterSync_settled (i : PortId) (s : State) : (enterSync i s).settled = s.settled := by simp [enterSync]
@[simp] theorem enterSync_porst (i : PortId) (s : State) : (enterSync i s).porst = s.porst := by simp [enterSync]

@[simp] theorem takeHeldLocks_uplinks (s : State) : (takeHeldLocks s).uplinks = s.uplinks := by
  simp only [takeHeldLocks]; split <;> split <;> simp
@[simp] theorem takeHeldLocks_scan (s : State) : (takeHeldLocks s).scan = s.scan := by
  simp only [takeHeldLocks]; split <;> split <;> simp
@[simp] theorem takeHeldLocks_porst (s : State) : (takeHeldLocks s).porst = s.porst := by
  simp only [takeHeldLocks]; split <;> split <;> simp

@[simp] theorem portReset_uplinks (i : PortId) (new : PortState) (s : State) : (portReset i new s).uplinks = s.uplinks := by
  simp only [portReset]; split <;> simp
@[simp] theorem portReset_scan (i : PortId) (new : PortState) (s : State) : (portReset i new s).scan = s.scan := by
  simp only [portReset]; split <;> simp
@[simp] theorem portReset_live (i : PortId) (new : PortState) (s : State) : (portReset i new s).live = s.live := by
  simp only [portReset]; split <;> simp
@[simp] theorem portReset_porst (i : PortId) (new : PortState) (s : State) : (portReset i new s).porst = s.porst := by
  simp only [portReset]; split <;> simp

@[simp] theorem ackTaken_uplinks (i : PortId) (v : DownVector) (s : State) : (ackTaken i v s).uplinks = s.uplinks := by
  simp only [ackTaken]; split <;> simp
@[simp] theorem ackTaken_scan (i : PortId) (v : DownVector) (s : State) : (ackTaken i v s).scan = s.scan := by
  simp only [ackTaken]; split <;> simp
@[simp] theorem ackTaken_live (i : PortId) (v : DownVector) (s : State) : (ackTaken i v s).live = s.live := by
  simp only [ackTaken]; split <;> simp
@[simp] theorem ackTaken_porst (i : PortId) (v : DownVector) (s : State) : (ackTaken i v s).porst = s.porst := by
  simp only [ackTaken]; split <;> simp

@[simp] theorem clearCounters_scan (s : State) : (clearCounters s).scan = s.scan := by simp only [clearCounters]

/-! ### The uplink records -/

/-- A cleared counter is no part of the order of a record. -/
theorem uplinkOk_countersCleared {v : Uplink} (h : UplinkOk v) : UplinkOk { v with darkEntries := 0#16, dampEntries := 0#16 } := h

theorem uplinksOk_fullReset (s : State) : UplinksOk s.fullReset := by
  intro u
  have hu : s.fullReset.uplinks[u] = Uplink.reset := by simp [State.fullReset, State.reset]
  rw [hu]; exact uplinkOk_reset

theorem uplinksOk_congr {s t : State} (h : t.uplinks = s.uplinks) (hs : UplinksOk s) : UplinksOk t := fun u => by
  rw [h]; exact hs u

theorem Change.keeps_uplinksOk {s t : State} (h : Change s t) : UplinksOk s → UplinksOk t := by
  induction h with
  | quiet hsame => exact uplinksOk_congr hsame.uplinks
  | uplinks us hmoves =>
    intro hs u
    rw [watchStep_uplinks]
    exact (hmoves u).keeps_ok (hs u)
  | scan => exact id
  | countersCleared =>
    intro hs u
    simpa [clearCounters] using uplinkOk_countersCleared (hs u)
  | synced i => exact uplinksOk_congr (enterSync_uplinks i _)
  | portReset i new => exact uplinksOk_congr (portReset_uplinks i new _)
  | acked i v => exact uplinksOk_congr (ackTaken_uplinks i v _)
  | fullReset => exact fun _ => uplinksOk_fullReset _
  | trans _ _ ih ih' => exact ih' ∘ ih

theorem PorstEdge.keeps_uplinksOk {s t : State} (h : PorstEdge s t) (hs : UplinksOk s) : UplinksOk t := by
  cases h with
  | asserted => exact uplinksOk_fullReset s
  | released => exact uplinksOk_congr (s := s) (takeHeldLocks_uplinks _) hs

/-! ### The scan -/

/-- `ScanOk` as a condition on the scan receiver alone. -/
def ScanInOrder (c : Scan) : Prop :=
  (c.state = .off → c.inFrame = false ∧ c.driven = [] ∧ c.bad = 0) ∧ (c.state = .tracking → c.bad < Config.staleAt) ∧
    (c.state = .stale → c.bad = Config.staleAt) ∧ 20 ≤ c.period.toNat ∧ c.period.toNat ≤ 2000 ∧
    levelAfter .loadRise .loadFall c.driven = false ∧ levelAfter .clkRise .clkFall c.driven = false

theorem scanOk_iff (s : State) : ScanOk s ↔ ScanInOrder s.scan := Iff.rfl

/-- The clamp leaves the period within its bounds (R3). -/
theorem clampPeriod_bounds (p : BitVec 16) : 20 ≤ (clampPeriod p).toNat ∧ (clampPeriod p).toNat ≤ 2000 := by
  unfold clampPeriod
  split
  · decide
  · split
    · decide
    · omega

theorem scanInOrder_reset : ScanInOrder Scan.reset := by
  refine ⟨fun _ => ⟨rfl, rfl, rfl⟩, ?_, ?_, ?_, ?_, rfl, rfl⟩ <;> decide

/-- A bad frame counts up to 8, and the eighth in TRACKING is the one that makes the scan STALE (R6). -/
theorem scanInOrder_judgedBad {c : Scan} (hon : c.state ≠ .off) (h : ScanInOrder c) : ScanInOrder
    { c with state := if c.state == .tracking && min Config.staleAt (c.bad + 1) == Config.staleAt then .stale else c.state
             bad := min Config.staleAt (c.bad + 1), inFrame := false, driven := frameEdges } := by
  obtain ⟨-, htracking, hstale, hlow, hhigh, -, -⟩ := h
  cases hs : c.state with
  | off => exact absurd hs hon
  | tracking =>
    have hbad := htracking hs
    by_cases heighth : c.bad + 1 = Config.staleAt
    · exact ⟨by simp [heighth], by simp [heighth], by simp [heighth], hlow, hhigh, by simp, by simp⟩
    · have hmin : min Config.staleAt (c.bad + 1) = c.bad + 1 := by omega
      exact ⟨by simp [hmin, heighth], fun _ => by simp only [hmin]; omega, by simp [hmin, heighth], hlow, hhigh, by simp, by simp⟩
  | stale =>
    exact ⟨by simp, by simp, fun _ => by simp [hstale hs], hlow, hhigh, by simp, by simp⟩

theorem ScanMove.keeps_order {c c' : Scan} (m : ScanMove c c') (h : ScanInOrder c) : ScanInOrder c' := by
  obtain ⟨hoff, htracking, hstale, hlow, hhigh, hload, hclk⟩ := id h
  cases m with
  | started hon => exact ⟨fun hc => absurd hc hon, htracking, hstale, hlow, hhigh, rfl, rfl⟩
  | judgedGood hon => exact ⟨by simp, by simp [Config.staleAt], by simp, hlow, hhigh, by simp, by simp⟩
  | judgedBad hon => exact scanInOrder_judgedBad hon h
  | enabled p =>
    exact ⟨by simp, by simp [Config.staleAt], by simp, (clampPeriod_bounds p).1, (clampPeriod_bounds p).2, rfl, rfl⟩
  | disabled p => exact ⟨by simp, by simp, by simp, (clampPeriod_bounds p).1, (clampPeriod_bounds p).2, rfl, rfl⟩
  | period p => exact ⟨hoff, htracking, hstale, (clampPeriod_bounds p).1, (clampPeriod_bounds p).2, hload, hclk⟩

theorem scanOk_congr {s t : State} (h : t.scan = s.scan) (hs : ScanOk s) : ScanOk t := by
  rw [scanOk_iff] at *; rwa [h]

theorem Change.keeps_scanOk {s t : State} (h : Change s t) : ScanOk s → ScanOk t := by
  induction h with
  | quiet hsame => exact scanOk_congr hsame.scan
  | uplinks us => exact scanOk_congr (watchStep_scan us _)
  | scan c hmove => exact fun hs => (scanOk_iff _).mpr (hmove.keeps_order ((scanOk_iff _).mp hs))
  | countersCleared => exact scanOk_congr (clearCounters_scan _)
  | synced i => exact scanOk_congr (enterSync_scan i _)
  | portReset i new => exact scanOk_congr (portReset_scan i new _)
  | acked i v => exact scanOk_congr (ackTaken_scan i v _)
  | fullReset => exact fun _ => (scanOk_iff _).mpr scanInOrder_reset
  | trans _ _ ih ih' => exact ih' ∘ ih

theorem PorstEdge.keeps_scanOk {s t : State} (h : PorstEdge s t) (hs : ScanOk s) : ScanOk t := by
  cases h with
  | asserted => exact (scanOk_iff _).mpr scanInOrder_reset
  | released => exact scanOk_congr (s := s) (takeHeldLocks_scan _) hs

/-- Settles O4: each operation on an uplink record and each move of the scan keeps its order, and every command is made of these. -/
theorem uplinksStayInStep : Obligations.UplinksStayInStep :=
  ⟨keptByEveryStep_of_changes (fun _ _ hs => hs) (fun _ _ h => h.keeps_uplinksOk) fun _ _ h => h.keeps_uplinksOk,
    keptByEveryStep_of_changes (fun _ _ hs => hs) (fun _ _ h => h.keeps_scanOk) fun _ _ h => h.keeps_scanOk⟩

end Sys2Proof.Proofs
end

section
/-! PROOFS. Every step keeps the live set, the acknowledged up-sets, the vectors and the settled set in agreement (O5). -/
namespace Sys2Proof.Proofs
open Sys2Proof.Machine Sys2Proof.Safety Sys2Proof.Claims

/-! ### One port: its acknowledged up-set and its vector -/

theorem within_iff (a b : UplinkSet) : Within a b ↔ ∀ i < 32, a.getLsbD i = true → b.getLsbD i = true := by
  refine ⟨fun h i _ ha => ?_, fun h => BitVec.eq_of_getLsbD_eq fun i hi => ?_⟩
  · rw [← h] at ha
    simp only [BitVec.getLsbD_and, Bool.and_eq_true] at ha
    exact ha.2
  · have hi := h i hi
    simpa using hi

/-- Without the uplinks that left, a set within the old live set is within the new one (R100). -/
theorem within_of_report {a old new : UplinkSet} (h : Within a old) : Within (a &&& ~~~(old &&& ~~~new)) new := by
  rw [within_iff] at *
  intro i hi ha
  have hold := h i hi
  simp only [BitVec.getLsbD_and, BitVec.getLsbD_not, hi, decide_true, Bool.true_and, Bool.and_eq_true, Bool.not_eq_true',
    Bool.and_eq_false_imp, Bool.not_eq_false'] at ha
  exact ha.2 (hold ha.1)

/-- A port's part of the agreement: its acknowledged up-set lies in the live set (R100), and a vector outstanding while it serves, with
the pending flag clear, names the uplinks that are not live (R98). -/
structure PortCurrent (live : UplinkSet) (p : Port) : Prop where
  within : Within p.ackUp live
  vector : p.serves = true → p.pendingFlag = false → ∀ v ∈ p.outstanding, v.notLive = ~~~live

theorem PortCurrent.congr {live : UplinkSet} {p q : Port} (h : SameVector p q) (hp : PortCurrent live p) : PortCurrent live q := by
  refine ⟨by rw [h.ackUp]; exact hp.within, ?_⟩
  rw [h.serves, h.pendingFlag, h.outstanding]
  exact hp.vector

/-- The port after a formed Down Vector, but for the ack timer. -/
theorem formVector_sameVector (live : UplinkSet) (timeout : Byte) (p : Port) :
    SameVector { p with outstanding := some { sequence := p.nextSeq, notLive := ~~~live } } (p.formVector live timeout) := by
  refine .startAckTimer ?_ _
  exact ⟨rfl, rfl, rfl, rfl⟩

theorem portCurrent_formVector {live : UplinkSet} {p : Port} (timeout : Byte) (h : Within p.ackUp live) :
    PortCurrent live (p.formVector live timeout) :=
  .congr (formVector_sameVector live timeout p) ⟨h, by simp⟩

/-- A report of a new live set leaves each port in agreement with it (R98, R100). -/
theorem portCurrent_takeReport {old : UplinkSet} {p : Port} (live : UplinkSet) (timeout : Byte) (h : Within p.ackUp old) :
    PortCurrent live (p.takeReport (old &&& ~~~live) live timeout) := by
  have hleft := within_of_report (new := live) h
  unfold Port.takeReport
  simp only
  split
  · split
    · exact portCurrent_formVector timeout hleft
    · exact ⟨hleft, by simp⟩
  next hserves =>
    have hserves' : ¬ ({ p with ackUp := p.ackUp &&& ~~~(old &&& ~~~live) } : Port).serves = true := hserves
    exact ⟨hleft, fun hs => absurd hs hserves'⟩

/-- The port after a matching Vector Ack, but for the ack timer and what the pending vector adds (R99). -/
theorem acknowledge_sameVector (v : DownVector) (live : UplinkSet) (timeout : Byte) (p : Port) :
    SameVector
      (if p.pendingFlag then
        Port.formVector live timeout { p with ackUp := ~~~v.notLive &&& live, outstanding := none, pendingFlag := false }
      else { p with ackUp := ~~~v.notLive &&& live, outstanding := none, state := if p.state = .sync then .up else p.state })
      (p.acknowledge v live timeout) := by
  unfold Port.acknowledge Port.rearmAckTimer
  by_cases hp : p.pendingFlag <;> by_cases hs : p.state = .sync <;> simp only [hp, hs, if_true, if_false, Bool.false_eq_true] <;>
    exact ⟨by simp, rfl, by simp, rfl⟩

theorem within_and_right (a live : UplinkSet) : Within (a &&& live) live := by
  simp [Within, BitVec.and_assoc]

theorem portCurrent_acknowledge (v : DownVector) (live : UplinkSet) (timeout : Byte) (p : Port) :
    PortCurrent live (p.acknowledge v live timeout) := by
  refine .congr (acknowledge_sameVector v live timeout p) ?_
  split
  · exact portCurrent_formVector timeout (within_and_right _ _)
  · exact ⟨within_and_right _ _, by simp⟩

/-- A Vector Ack takes no port out of UP. -/
theorem acknowledge_up {v : DownVector} {live : UplinkSet} {timeout : Byte} {p : Port} (h : p.state = .up) :
    (p.acknowledge v live timeout).state = .up := by
  rw [(acknowledge_sameVector v live timeout p).state]
  split
  · rw [(formVector_sameVector ..).state]; exact h
  · simp [h]

theorem admits_of_not_up {p : Port} (h : p.state ≠ .up) : p.admits = BitVec.allOnes 32 := by simp [Port.admits, h]

/-! ### The ports of a state after a shared operation -/

@[simp] theorem State.raise_port (s : State) (f : Byte) (i : PortId) : (s.raise f).port i = s.port i := by cases i <;> rfl
@[simp] theorem State.raiseIf_port (s : State) (c : Bool) (f : Byte) (i : PortId) : (s.raiseIf c f).port i = s.port i := by
  cases i <;> simp
@[simp] theorem completeAll_port (s : State) (i : PortId) : (completeAll s).port i = s.port i := by cases i <;> simp
@[simp] theorem barrierCheck_port (s : State) (i : PortId) : (barrierCheck s).port i = s.port i := by cases i <;> simp
@[simp] theorem resettle_port (s : State) (i : PortId) : (resettle s).port i = s.port i := by cases i <;> simp

/-- The port that a port reset resets. -/
theorem portReset_port (i : PortId) (new : PortState) (s : State) :
    SameVector ((s.port i).emptied new) ((portReset i new s).port i) := by
  simp only [portReset]
  split <;> simp only [barrierCheck_port, resettle_port, State.raiseIf_port, State.raise_port, completeAll_port, State.port_setPort] <;>
    split <;> exact ⟨rfl, rfl, rfl, rfl⟩

theorem portReset_port_ne {i j : PortId} (new : PortState) (s : State) (h : i ≠ j) : (portReset i new s).port j = s.port j := by
  simp only [portReset]
  split <;> simp [State.port_setPort_ne s _ h]

theorem enterSync_port (i : PortId) (s : State) :
    (enterSync i s).port i = Port.formVector s.live s.ackTimeout { s.port i with state := .sync } := by simp [enterSync]

theorem enterSync_port_ne {i j : PortId} (s : State) (h : i ≠ j) : (enterSync i s).port j = s.port j := by
  simp [enterSync, State.port_setPort_ne s _ h]

theorem ackTaken_port (i : PortId) (v : DownVector) (s : State) :
    (ackTaken i v s).port i = (s.port i).acknowledge v s.live s.ackTimeout := by
  simp only [ackTaken]; split <;> simp

theorem ackTaken_port_ne {i j : PortId} (v : DownVector) (s : State) (h : i ≠ j) : (ackTaken i v s).port j = s.port j := by
  simp only [ackTaken]; split <;> simp [State.port_setPort_ne s _ h]

/-! ### The agreement -/

/-- `SettledInv` without the full-reset pin. -/
structure WatchInv (s : State) : Prop where
  live : LiveCurrent s
  port : ∀ i, PortCurrent s.live (s.port i)
  settled : s.settled = settledOf s.live s.lp0 s.lp1

theorem settledInv_iff (s : State) : SettledInv s ↔ HeldInReset s ∧ WatchInv s := by
  constructor
  · rintro ⟨hheld, hlive, ⟨hw0, hw1, hsettled⟩, hv0, hv1⟩
    refine ⟨hheld, hlive, fun i => ?_, hsettled⟩
    cases i
    · exact ⟨hw0, hv0⟩
    · exact ⟨hw1, hv1⟩
  · rintro ⟨hheld, hlive, hport, hsettled⟩
    exact ⟨hheld, hlive, ⟨(hport .lp0).within, (hport .lp1).within, hsettled⟩, (hport .lp0).vector, (hport .lp1).vector⟩

/-- The settled set a state should have depends on what its ports let in. -/
theorem settledOf_congr {s t : State} (hlive : t.live = s.live) (h : ∀ i, (t.port i).admits = (s.port i).admits) :
    settledOf t.live t.lp0 t.lp1 = settledOf s.live s.lp0 s.lp1 := by
  have h0 : t.lp0.admits = s.lp0.admits := h .lp0
  have h1 : t.lp1.admits = s.lp1.admits := h .lp1
  simp only [settledOf, hlive, h0, h1]

theorem watchInv_congr {s t : State} (h : SameWatch s t) (hs : WatchInv s) : WatchInv t := by
  refine ⟨?_, fun i => ?_, ?_⟩
  · rw [LiveCurrent, h.live, h.uplinks]; exact hs.live
  · rw [h.live]; exact .congr (h.port i) (hs.port i)
  · rw [h.settled, hs.settled, settledOf_congr h.live fun i => (h.port i).admits]

/-- A change of one port keeps the agreement when the port ends in agreement, and either the settled set is recomputed or it stays and the
port lets in what it did. -/
theorem watchInv_of_port {s t : State} (i : PortId) (hs : WatchInv s) (huplinks : t.uplinks = s.uplinks) (hlive : t.live = s.live)
    (hne : ∀ j, i ≠ j → t.port j = s.port j) (hport : PortCurrent s.live (t.port i))
    (hsettled : t.settled = settledOf t.live t.lp0 t.lp1 ∨ (t.settled = s.settled ∧ (t.port i).admits = (s.port i).admits)) :
    WatchInv t := by
  refine ⟨?_, fun j => ?_, ?_⟩
  · rw [LiveCurrent, hlive, huplinks]; exact hs.live
  · rw [hlive]
    by_cases hj : i = j
    · subst hj; exact hport
    · rw [hne j hj]; exact hs.port j
  · rcases hsettled with hnew | ⟨hkept, hadmits⟩
    · exact hnew
    · rw [hkept, hs.settled, settledOf_congr hlive fun j => ?_]
      by_cases hj : i = j
      · subst hj; exact hadmits
      · rw [hne j hj]

theorem watchInv_enterSync {i : PortId} {s : State} (hdown : (s.port i).state = .down) (hs : WatchInv s) :
    WatchInv (enterSync i s) := by
  refine watchInv_of_port i hs (by simp) (by simp) (fun j hj => enterSync_port_ne s hj) ?_ (.inr ⟨by simp, ?_⟩)
  · rw [enterSync_port]; exact portCurrent_formVector _ (hs.port i).within
  · rw [enterSync_port, (formVector_sameVector ..).admits, admits_of_not_up, admits_of_not_up] <;> simp [hdown]

theorem watchInv_portReset {i : PortId} {new : PortState} {s : State} (hnew : new = .down ∨ new = .fault) (hs : WatchInv s) :
    WatchInv (portReset i new s) := by
  have hport := portReset_port i new s
  have hserves : ((s.port i).emptied new).serves = false := by rcases hnew with rfl | rfl <;> rfl
  refine watchInv_of_port i hs (by simp) (by simp) (fun j hj => portReset_port_ne new s hj) (.congr hport ⟨?_, ?_⟩) ?_
  · simp [Port.emptied, Within]
  · simp [hserves]
  · by_cases hup : (s.port i).state = .up
    · exact .inl (by simp [portReset, hup])
    · refine .inr ⟨by simp [portReset, hup], ?_⟩
      rw [hport.admits, admits_of_not_up hup, admits_of_not_up]
      rcases hnew with rfl | rfl <;> simp [Port.emptied]

theorem watchInv_ackTaken {i : PortId} {v : DownVector} {s : State} (hs : WatchInv s) : WatchInv (ackTaken i v s) := by
  refine watchInv_of_port i hs (by simp) (by simp) (fun j hj => ackTaken_port_ne v s hj) ?_ ?_
  · rw [ackTaken_port]; exact portCurrent_acknowledge ..
  · by_cases hup : ((s.port i).acknowledge v s.live s.ackTimeout).state = .up
    · exact .inl (by simp [ackTaken, hup])
    · refine .inr ⟨by simp [ackTaken, hup], ?_⟩
      rw [ackTaken_port, admits_of_not_up hup, admits_of_not_up fun h => hup (acknowledge_up h)]

/-- A report of a new live set, to ports in agreement with the old one (R22, R100). -/
theorem watchInv_reportLive {live : UplinkSet} {s : State} (hlive : live = liveOf s.uplinks)
    (hport : ∀ i, PortCurrent s.live (s.port i)) (hsettled : s.settled = settledOf s.live s.lp0 s.lp1) :
    WatchInv (reportLive live s) := by
  unfold reportLive
  split
  next hsame => exact ⟨hsame.symm.trans hlive, hport, hsettled⟩
  next =>
    refine ⟨by simpa [LiveCurrent] using hlive, fun i => ?_, by simp⟩
    simp only [resettle_live, resettle_port]
    cases i
    · exact portCurrent_takeReport live _ (hport .lp0).within
    · exact portCurrent_takeReport live _ (hport .lp1).within

theorem watchInv_watchStep {us : Vector Uplink 32} {s : State} (hs : WatchInv s) : WatchInv (watchStep us s) := by
  refine watchInv_reportLive (by simp) (fun i => ?_) ?_
  · rw [State.raiseIf_live, State.raiseIf_port]
    cases i
    · exact hs.port .lp0
    · exact hs.port .lp1
  · simpa using hs.settled

/-- Cleared counters leave every uplink its state. -/
theorem liveOf_clearCounters (s : State) : liveOf (clearCounters s).uplinks = liveOf s.uplinks := by
  simp [clearCounters, liveOf]

theorem watchInv_clearCounters {s : State} (hs : WatchInv s) : WatchInv (clearCounters s) := by
  have hlive : (clearCounters s).live = s.live := by simp only [clearCounters]
  have hsettled : (clearCounters s).settled = s.settled := by simp only [clearCounters]
  have hport (i : PortId) : SameVector (s.port i) ((clearCounters s).port i) := by
    cases i <;> simp only [clearCounters, State.port_lp0, State.port_lp1] <;> exact ⟨rfl, rfl, rfl, rfl⟩
  refine ⟨?_, fun i => ?_, ?_⟩
  · rw [LiveCurrent, liveOf_clearCounters, hlive]; exact hs.live
  · rw [hlive]; exact .congr (hport i) (hs.port i)
  · rw [hsettled, hs.settled, settledOf_congr hlive fun i => (hport i).admits]

/-- With every uplink in ADMIN_DOWN none is live. -/
theorem liveOf_reset : liveOf State.reset.uplinks = 0#32 := by
  refine BitVec.eq_of_getLsbD_eq fun i hi => ?_
  rw [getLsbD_liveOf State.reset.uplinks ⟨i, hi⟩]
  simp [State.reset, Uplink.reset, UplinkState.isLive]

/-- A port at its full-reset values agrees with any live set. -/
theorem portCurrent_reset (live : UplinkSet) (locked : Bool) : PortCurrent live { Port.reset with locked := locked } :=
  ⟨by simp [Port.reset, Within], by simp [Port.reset, Port.serves]⟩

theorem watchInv_fullReset (s : State) : WatchInv s.fullReset := by
  refine ⟨?_, fun i => ?_, by simp [State.fullReset, State.reset, settledOf]⟩
  · exact liveOf_reset.symm
  · cases i <;> exact portCurrent_reset ..

theorem Change.keeps_watchInv {s t : State} (h : Change s t) : WatchInv s → WatchInv t := by
  induction h with
  | quiet hsame => exact watchInv_congr hsame
  | uplinks us => exact watchInv_watchStep
  | scan c => exact fun hs => ⟨hs.live, hs.port, hs.settled⟩
  | countersCleared => exact watchInv_clearCounters
  | synced i hdown => exact watchInv_enterSync hdown
  | portReset i new hnew => exact watchInv_portReset hnew
  | acked i v => exact watchInv_ackTaken
  | fullReset => exact fun _ => watchInv_fullReset _
  | trans _ _ ih ih' => exact ih' ∘ ih

/-! ### The full-reset pin -/

theorem Change.porst_eq {s t : State} (h : Change s t) : t.porst = s.porst := by
  induction h with
  | quiet hsame => exact hsame.porst
  | uplinks us => exact watchStep_porst us _
  | scan c => rfl
  | countersCleared => simp only [clearCounters]
  | synced i => exact enterSync_porst i _
  | portReset i new => exact portReset_porst i new _
  | acked i v => exact ackTaken_porst i v _
  | fullReset => rfl
  | trans _ _ ih ih' => exact ih'.trans ih

/-- What a command can change while PORST_N is low: a lane's lock and MRST_N are tracked, and PORST_N can rise (R46, R112, R143). -/
inductive HeldMove (s : State) : State → Prop where
  | stays : HeldMove s s
  | lock (i : PortId) (b : Bool) : HeldMove s (s.setPort i { s.port i with locked := b })
  | mrstLow : HeldMove s { s with mgmt := s.mgmt.heldReset, link := s.link.cutShort, mrst := true }
  | mrstHigh : HeldMove s { s with mrst := false }
  | released (t : State) : t.porst = false → HeldMove s t

theorem unlessReset_held {s t : State} {f : State → State} (hp : s.porst = true) (h : unlessReset s f = .next t) : HeldMove s t := by
  rcases unlessReset_next h with ⟨-, rfl⟩ | ⟨hrun, -⟩
  · exact .stays
  · simp [hp] at hrun

theorem exec_held (c : Instr) {s t : State} (hp : s.porst = true) (h : exec c s = .next t) : HeldMove s t := by
  cases c with
  | mrstNAssert => cases h; exact .mrstLow
  | mrstNRelease => cases h; exact .mrstHigh
  | porstNAssert => cases h; rw [if_pos hp]; exact .stays
  | porstNRelease => cases h; rw [if_pos hp]; exact .released _ (by simp)
  | laneLockGained i => cases h; rw [if_pos hp]; exact .lock i true
  | laneLockLost i => cases h; rw [if_pos hp]; exact .lock i false
  | _ =>
    simp only [exec] at h
    exact unlessReset_held hp h

/-- A state at its full-reset values stays there while the pin is low. -/
theorem HeldMove.keeps_held {s t : State} (h : HeldMove s t) (hs : s = s.fullReset) (ht : t.porst = true) : t = t.fullReset := by
  cases h with
  | stays => exact hs
  | lock i b => cases i <;> · rw [hs]; rfl
  | mrstLow => rw [hs]; rfl
  | mrstHigh => rw [hs]; rfl
  | released _ hrun => simp [ht] at hrun

theorem exec_keeps_heldInReset (c : Instr) {s t : State} (h : exec c s = .next t) (hs : HeldInReset s) : HeldInReset t := by
  intro ht
  cases hp : s.porst
  · rcases exec_change c h with hchange | hedge
    · simp [hchange.porst_eq, hp] at ht
    · cases hedge with
      | asserted => rfl
      | released hlow => simp [hp] at hlow
  · exact (exec_held c hp h).keeps_held (hs hp) ht

/-- While PORST_N is low every block is at its full-reset values, from one step to the next (R46). -/
theorem heldInReset_kept : KeptByEveryStep HeldInReset := by
  intro s t hs h
  rcases step_cases h with rfl | ⟨c, rest, hexec⟩
  · exact hs
  · refine exec_keeps_heldInReset c hexec fun hp => ?_
    exact congrArg (fun r : State => { r with pending := rest }) (hs hp)

/-- PORST_N high takes the held lanes into SYNC, out of DOWN, where the full reset put both ports (R112). -/
theorem PorstEdge.keeps_watchInv {s t : State} (h : PorstEdge s t) (hheld : HeldInReset s) (hs : WatchInv s) : WatchInv t := by
  cases h with
  | asserted =>
    obtain ⟨hlive, hport, hsettled⟩ := watchInv_fullReset s
    exact ⟨hlive, hport, hsettled⟩
  | released hlow =>
    have hs' : WatchInv { s with porst := false } := ⟨hs.live, hs.port, hs.settled⟩
    refine (change_takeHeldLocks ?_ ?_).keeps_watchInv hs'
    · show s.lp0.state = .down
      rw [hheld hlow]; rfl
    · show s.lp1.state = .down
      rw [hheld hlow]; rfl

/-- Settles O5: every change a command is made of keeps the agreement, and PORST_N's edges start from and end at full-reset values. -/
theorem settledSetStaysCurrent : Obligations.SettledSetStaysCurrent := by
  intro s t hs h
  rw [settledInv_iff] at hs ⊢
  refine ⟨heldInReset_kept s t hs.1 h, ?_⟩
  obtain ⟨hheld, hwatch⟩ := hs
  rcases step_cases h with rfl | ⟨c, rest, hexec⟩
  · exact hwatch
  · have hwatch' : WatchInv { s with pending := rest } := ⟨hwatch.live, hwatch.port, hwatch.settled⟩
    rcases exec_change c hexec with hchange | hedge
    · exact hchange.keeps_watchInv hwatch'
    · exact hedge.keeps_watchInv (fun hp => congrArg (fun r : State => { r with pending := rest }) (hheld hp)) hwatch'

end Sys2Proof.Proofs
end

section
/-! PROOFS. What the commands of Uplink Watch do: its inputs, its timers, the scan frames and the report of the live set
(O15 to O17, O21). -/
namespace Sys2Proof.Proofs
open Sys2Proof.Machine Sys2Proof.Safety Sys2Proof.Claims

/-! ### A step of Uplink Watch -/

theorem unlessReset_runs {s : State} (h : Runs s) (f : State → State) : unlessReset s f = .next (f s) := by
  simp [unlessReset, h]

/-- A step that moves no uplink enters no state. -/
theorem anyEntered_self (us : Vector Uplink 32) : anyEntered us us = false := by simp [anyEntered]

/-- A step of Uplink Watch that moves no uplink changes nothing when the live set is current. -/
theorem watchStep_self {s : State} (h : LiveCurrent s) : watchStep s.uplinks s = s := by
  have hlive : liveOf s.uplinks = s.live := h.symm
  rw [watchStep, anyEntered_self, State.raiseIf_false, hlive]
  exact reportLive_same s

theorem stepUplink_eq (u : Fin 32) (f : Uplink → Uplink) (s : State) :
    stepUplink u f s = watchStep (withUplink s u (f s.uplinks[u])) s := rfl

/-- An operation that leaves its uplink as it is changes nothing when the live set is current. -/
theorem stepUplink_same {u : Fin 32} {f : Uplink → Uplink} {s : State} (hlive : LiveCurrent s) (hf : f s.uplinks[u] = s.uplinks[u]) :
    stepUplink u f s = s := by
  have hset : withUplink s u s.uplinks[u] = s.uplinks := Vector.set_getElem_self u.isLt
  rw [stepUplink_eq, hf, hset, watchStep_self hlive]

/-- A step of every uplink, by a function of its number and its record. -/
theorem stepUplinks_all (f : Fin 32 → Uplink → Uplink) (s : State) :
    stepUplinks (BitVec.allOnes 32) f s = watchStep (Vector.ofFn fun u : Fin 32 => f u s.uplinks[u]) s := by
  have hall (u : Fin 32) : (BitVec.allOnes 32).getLsbD u.val = true := by
    rw [BitVec.getLsbD_allOnes]; exact decide_eq_true u.isLt
  simp only [stepUplinks, hall, if_true]

theorem raiseIf_eq_ite (s : State) (c : Bool) (p : Prop) [Decidable p] (f : Byte) (h : c = true ↔ p) :
    s.raiseIf c f = if p then flagged f s else s := by
  by_cases hp : p
  · rw [if_pos hp, h.mpr hp]; rfl
  · rw [if_neg hp, Bool.eq_false_iff.mpr (mt h.mp hp)]; rfl

/-! ### Darkness (R7 to R14, R19) -/

theorem rawDark_iff (v : Uplink) : v.rawDark = true ↔ (v.line = true ∧ v.config.lineEnable = true) ∨ v.code = .localFault ∨
    v.code = .remoteFault ∨ (v.code = .degraded ∧ v.config.degradedIsDark = true) := by
  cases hc : v.code <;> simp [Uplink.rawDark, ScanCode.darkens, hc]

theorem reevaluate_same {v : Uplink} (h : v.rawDark = v.d) : v.reevaluate = v := by simp [Uplink.reevaluate, h]

/-- A re-evaluation that finds another d takes the change. -/
theorem reevaluate_changed {v : Uplink} {d : Bool} (hraw : v.rawDark = d) (hd : v.d ≠ d) :
    v.reevaluate = Uplink.takeChange { v with d := d } := by
  rw [Uplink.reevaluate, hraw, if_neg hd.symm]

/-- The onset that brings the count to the flap limit damps the uplink, whatever it would enter (R19). -/
theorem takeOnset_reached {v : Uplink} (enter : Uplink → Uplink) (hl : v.config.flapLimit ≠ 0#4)
    (hreached : v.config.flapLimit.toNat ≤ v.onset + 1) : v.takeOnset enter = v.enterDamped := by
  simp [Uplink.takeOnset, hl, hreached]

/-- An onset short of the flap limit is counted and its window runs; with flap limit 0 no onset is counted (R19). -/
def counted (v : Uplink) : Uplink :=
  { v with onset := if v.config.flapLimit = 0#4 then v.onset else v.onset + 1
           window := if v.config.flapLimit = 0#4 ∨ v.onset ≠ 0 then v.window
                     else .running (v.config.flapWindow.toNat * 1000000) }

theorem takeOnset_short {v : Uplink} (enter : Uplink → Uplink)
    (hshort : v.config.flapLimit = 0#4 ∨ v.onset + 1 < v.config.flapLimit.toNat) : v.takeOnset enter = enter (counted v) := by
  by_cases hl : v.config.flapLimit = 0#4
  · simp [Uplink.takeOnset, counted, hl]
  · have hlt : ¬ v.config.flapLimit.toNat ≤ v.onset + 1 := by
      have := hshort.resolve_left hl
      omega
    by_cases h0 : v.onset = 0 <;> simp_all [Uplink.takeOnset, counted]

/-- Darkness in LIT or RESTORING is an onset (R10, R13). -/
theorem reevaluate_onset {v : Uplink} (hraw : v.rawDark = true) (hd : v.d = false) :
    (v.state = .lit → v.reevaluate =
      Uplink.takeOnset (fun w => if w.config.darkQualify = 0#8 then w.enterDark else w.enterSuspect) { v with d := true }) ∧
    (v.state = .restoring → v.reevaluate = Uplink.takeOnset Uplink.enterDark { v with d := true }) := by
  rw [reevaluate_changed hraw (by simp [hd])]
  constructor <;> intro hs <;> simp [Uplink.takeChange, hs]

/-- In ADMIN_DOWN and DAMPED a change of d is only recorded. -/
theorem reevaluate_recorded {v : Uplink} (hs : v.state = .adminDown ∨ v.state = .damped) :
    v.reevaluate = { v with d := v.rawDark } := by
  unfold Uplink.reevaluate
  split
  next hsame => rw [hsame]
  next => rcases hs with hs | hs <;> simp [Uplink.takeChange, hs]

/-- Settles O15: the two halves are the command, a step of its uplink alone, and the table of section 1.5, read state by state. -/
theorem darknessDrivesTheUplinkStates : Obligations.DarknessDrivesTheUplinkStates := by
  refine ⟨fun u level s hrun => ⟨fun hne => ?_, fun hsame hlive => ?_⟩, fun v => ⟨rawDark_iff v, reevaluate_same, ?_, ?_, ?_⟩⟩
  · have hset : Uplink.setLine level s.uplinks[u] = Uplink.reevaluate { s.uplinks[u] with line := level } := if_neg hne
    rw [← hset]
    exact unlessReset_runs hrun _
  · have hset : Uplink.setLine level s.uplinks[u] = s.uplinks[u] := if_pos hsame
    exact (unlessReset_runs hrun _).trans (congrArg _ (stepUplink_same hlive hset))
  · intro hraw hd hstate
    obtain ⟨hlit, hrestoring⟩ := reevaluate_onset hraw hd
    refine ⟨fun hl hreached => ?_, fun hshort => ⟨counted { v with d := true }, rfl, fun hs hq => ?_, fun hcase => ?_⟩⟩
    · rcases hstate with hs | hs
      · exact (hlit hs).trans (takeOnset_reached (v := { v with d := true }) _ hl hreached)
      · exact (hrestoring hs).trans (takeOnset_reached (v := { v with d := true }) _ hl hreached)
    · exact (hlit hs).trans ((takeOnset_short (v := { v with d := true }) _ hshort).trans (if_neg hq))
    · rcases hstate with hs | hs
      · have hq : v.config.darkQualify = 0#8 := hcase.resolve_left (by simp [hs])
        exact (hlit hs).trans ((takeOnset_short (v := { v with d := true }) _ hshort).trans (if_pos hq))
      · exact (hrestoring hs).trans (takeOnset_short (v := { v with d := true }) _ hshort)
  · intro hraw hd
    rw [reevaluate_changed hraw (by simp [hd])]
    refine ⟨fun hs => ?_, fun hs hr => ?_, fun hs hr => ?_⟩
    · simp [Uplink.takeChange, hs, Uplink.enterLit]
    · simp [Uplink.takeChange, hs, Uplink.enterReturn, hr, Uplink.enterLit]
    · simp [Uplink.takeChange, hs, Uplink.enterReturn, hr, Uplink.enterRestoring]
  · exact reevaluate_recorded

/-! ### Timers (R9, R11, R13, R14, R19) -/

/-- An operation on one uplink, taken while the part runs. -/
theorem unlessReset_stepUplink {u : Fin 32} {f : Uplink → Uplink} {s : State} {w : Uplink} (hrun : Runs s)
    (hf : f s.uplinks[u] = w) : unlessReset s (stepUplink u f) = .next (watchStep (withUplink s u w) s) := by
  rw [unlessReset_runs hrun, stepUplink_eq, hf]

theorem unlessReset_stepUplink_same {u : Fin 32} {f : Uplink → Uplink} {s : State} (hrun : Runs s) (hlive : LiveCurrent s)
    (hf : f s.uplinks[u] = s.uplinks[u]) : unlessReset s (stepUplink u f) = .next s := by
  rw [unlessReset_runs hrun, stepUplink_same hlive hf]

/-- Out of DAMPED or ADMIN_DOWN, by d and restore_time (R14, R16). -/
theorem enterByDarkness_eq (v : Uplink) : v.enterByDarkness =
    if v.d = true then { v with state := .dark, qualify := .stopped, darkEntries := satInc v.darkEntries }
    else if v.config.restoreTime = 0#16 then { v with state := .lit, qualify := .stopped }
    else { v with state := .restoring, qualify := .running (v.config.restoreTime.toNat * 1000) } := rfl

/-- Settles O16: each expiry is a step of its uplink alone, which its state and timer decide. -/
theorem uplinkTimersExpire : Obligations.UplinkTimersExpire := by
  intro u s hrun v hv
  subst hv
  refine ⟨fun hs hq => ?_, fun hs hq => ?_, fun hs hq => ?_, fun hw => ?_, fun hq hlive => ⟨?_, ?_, ?_⟩, fun hw hlive => ?_⟩
  · exact unlessReset_stepUplink hrun (if_pos ⟨hs, hq⟩)
  · exact unlessReset_stepUplink hrun (if_pos ⟨hs, hq⟩)
  · exact unlessReset_stepUplink hrun ((if_pos ⟨hs, hq⟩).trans (enterByDarkness_eq _))
  · exact unlessReset_stepUplink hrun (if_pos hw)
  · exact unlessReset_stepUplink_same hrun hlive (if_neg fun h => h.2 hq)
  · exact unlessReset_stepUplink_same hrun hlive (if_neg fun h => h.2 hq)
  · exact unlessReset_stepUplink_same hrun hlive (if_neg fun h => h.2 hq)
  · exact unlessReset_stepUplink_same hrun hlive (if_neg fun h => h hw)

/-! ### Scan frames (R4 to R6, R173) -/

theorem frameEdges_eq : frameEdges = pulseAnd68 := by decide

/-- A marker bit is a bit of the frame, the first sampled standing in bit 67. -/
theorem getLsbD_scanMarker (bits : BitVec 68) {i : Nat} (hi : i < 4) : (scanMarker bits).getLsbD i = bits.getLsbD (64 + i) := by
  simp [scanMarker, hi]

theorem marker_iff (m : BitVec 4) : m = 0b0110#4 ↔ (!m.getLsbD 3 && m.getLsbD 2 && m.getLsbD 1 && !m.getLsbD 0) = true := by
  decide +revert

theorem scanMarker_good (bits : BitVec 68) : scanMarker bits = 0b0110#4 ↔ goodMarker bits = true := by
  rw [marker_iff, goodMarker]
  simp (disch := decide) only [getLsbD_scanMarker, Nat.reduceAdd, Nat.add_zero]

theorem scanCodeOfBits_eq (b : BitVec 2) : scanCodeOfBits b =
    match b.getLsbD 1, b.getLsbD 0 with
    | false, false => .ok
    | false, true => .localFault
    | true, false => .remoteFault
    | true, true => .degraded := by decide +revert

/-- The code of an uplink in a frame: its two sampled bits, high bit first (R173). -/
theorem scanCode_eq (bits : BitVec 68) (u : Fin 32) : scanCodeOfBits (scanCodeBits bits u) = codeAt bits u := by
  have hhigh : (scanCodeBits bits u).getLsbD 1 = bits.getLsbD (68 - (5 + 2 * u.val)) := by
    simp only [scanCodeBits, BitVec.getLsbD_extractLsb', Nat.one_lt_ofNat, decide_true, Bool.true_and]
    congr 1; omega
  have hlow : (scanCodeBits bits u).getLsbD 0 = bits.getLsbD (68 - (6 + 2 * u.val)) := by
    simp only [scanCodeBits, BitVec.getLsbD_extractLsb', Nat.ofNat_pos, decide_true, Bool.true_and]
    congr 1; omega
  rw [scanCodeOfBits_eq, hhigh, hlow]
  rfl

/-- A frame with a good marker, judged in TRACKING or STALE. -/
theorem goodFrame_eq (bits : BitVec 68) (s : State) : goodFrame bits s =
    watchStep
      (Vector.ofFn fun u : Fin 32 =>
        if codeAt bits u = s.uplinks[u].code then s.uplinks[u]
        else Uplink.reevaluate { s.uplinks[u] with code := codeAt bits u })
      (if s.scan.state = .stale then
        flagged 0x04#8 { s with scan := { s.scan with state := .tracking, bad := 0, inFrame := false, driven := pulseAnd68 } }
      else { s with scan := { s.scan with state := .tracking, bad := 0, inFrame := false, driven := pulseAnd68 } }) := by
  simp only [goodFrame, stepUplinks_all, State.raiseIf_uplinks, scanCode_eq, Uplink.setCode, frameEdges_eq]
  exact congrArg (watchStep _) (raiseIf_eq_ite _ _ _ _ (by simp))

/-- A frame with another marker: the count rises up to 8, and in TRACKING the eighth makes the scan STALE (R6). -/
theorem badFrame_eq (s : State) : badFrame s =
    if s.scan.state = .tracking ∧ 7 ≤ s.scan.bad then
      flagged 0x04#8 { s with scan := { s.scan with state := .stale, bad := 8, inFrame := false, driven := pulseAnd68 } }
    else { s with scan := { s.scan with bad := if 7 ≤ s.scan.bad then 8 else s.scan.bad + 1, inFrame := false,
                                        driven := pulseAnd68 } } := by
  have h8 : Config.staleAt = 8 := rfl
  have hbad : min 8 (s.scan.bad + 1) = if 7 ≤ s.scan.bad then 8 else s.scan.bad + 1 := by split <;> omega
  have hstale : (s.scan.state == .tracking && min 8 (s.scan.bad + 1) == 8) = true ↔ s.scan.state = .tracking ∧ 7 ≤ s.scan.bad := by
    rw [hbad, Bool.and_eq_true, beq_iff_eq, beq_iff_eq]
    refine and_congr_right fun _ => ?_
    split <;> omega
  simp only [badFrame, frameEdges_eq, h8, hstale]
  rw [raiseIf_eq_ite _ _ _ _ hstale, hbad]
  by_cases h : s.scan.state = .tracking ∧ 7 ≤ s.scan.bad
  · simp only [if_pos h, if_pos h.2]; rfl
  · simp only [if_neg h]

/-- Settles O17: a good frame is one step of every uplink, a bad one counts; the marker and the codes are read bit by bit. -/
theorem scanFramesAreJudgedWhole : Obligations.ScanFramesAreJudgedWhole := by
  intro bits s hrun
  have hjudged (hon : s.scan.state ≠ .off) (hframe : s.scan.inFrame = true) : ¬ (s.scan.state = .off ∨ s.scan.inFrame = false) := by
    simp [hon, hframe]
  refine ⟨fun hon => ?_, fun hoff => ⟨?_, ?_⟩, fun hon hframe hgood => ⟨_, rfl, ?_⟩, fun hon hframe hbad => ?_⟩
  · simp only [exec, execScanFrameStart, unlessReset_runs hrun, if_neg hon]; rfl
  · simp only [exec, execScanFrameStart, unlessReset_runs hrun, if_pos hoff]
  · simp only [exec, execScanFrameJudged, unlessReset_runs hrun, if_pos (Or.inl (b := s.scan.inFrame = false) hoff)]
  · rw [← goodFrame_eq]
    simp only [exec, execScanFrameJudged, unlessReset_runs hrun, if_neg (hjudged hon hframe),
      if_pos ((scanMarker_good bits).mpr hgood)]
  · have hmarker : scanMarker bits ≠ 0b0110#4 := fun h => by simp [(scanMarker_good bits).mp h] at hbad
    rw [← badFrame_eq]
    simp only [exec, execScanFrameJudged, unlessReset_runs hrun, if_neg (hjudged hon hframe), if_neg hmarker]

/-! ### The report of the live set (R18, R22, R98, R100) -/

theorem isFlagged_iff (st : UplinkState) : st.isFlagged = true ↔ st = .dark ∨ st = .lit ∨ st = .damped ∨ st = .adminDown := by
  cases st <;> simp [UplinkState.isFlagged]

theorem isLive_iff (st : UplinkState) : st.isLive = true ↔ st = .lit ∨ st = .suspect := by
  cases st <;> simp [UplinkState.isLive]

/-- Some uplink entered a state that sets the UPLINK flag (R18). -/
theorem anyEntered_iff (old new : Vector Uplink 32) : anyEntered old new = true ↔ ∃ u : Fin 32, new[u].state ≠ old[u].state ∧
    (new[u].state = .dark ∨ new[u].state = .lit ∨ new[u].state = .damped ∨ new[u].state = .adminDown) := by
  simp only [anyEntered, allUplinks, List.any_eq_true, List.mem_finRange, true_and, Bool.and_eq_true, bne_iff_ne, isFlagged_iff]

/-- The ack timer starts when it is stopped (R105). -/
theorem startAckTimer_eq_ite (timeout : Byte) (p : Port) : p.startAckTimer timeout =
    { p with ackTimer := if p.ackTimer = .stopped then .running (timeout.toNat * 100) else p.ackTimer } := by
  obtain ⟨state, locked, answers, unanswered, transmit, nextSeq, outstanding, pendingFlag, ackUp, timer, counters, slots, retracts,
    sent⟩ := p
  cases timer <;> rfl

/-- A port's part of a report, in the words of the statements. -/
theorem takeReport_eq (left live : UplinkSet) (timeout : Byte) (p : Port) :
    p.takeReport left live timeout = portReport left live timeout p := by
  have hserves : p.serves = true ↔ ¬ (p.state = .down ∨ p.state = .fault) := by cases hs : p.state <;> simp [Port.serves, hs]
  unfold Port.takeReport portReport
  by_cases h : p.state = .down ∨ p.state = .fault
  · simp only [if_pos h, if_neg (mt hserves.mp (not_not.mpr h))]
  · simp only [if_neg h, if_pos (hserves.mpr h)]
    cases ho : p.outstanding with
    | some v => simp
    | none => simp [Port.formVector, startAckTimer_eq_ite, nextSequence]

/-- Settles O21: the flag follows `anyEntered`, the live set `liveOf`, and a change of it goes through `reportLive`. -/
theorem liveSetChangesAreReported : Obligations.LiveSetChangesAreReported := by
  intro us s entered
  have hentered : anyEntered s.uplinks us = true ↔ entered := anyEntered_iff _ _
  refine ⟨State.raiseIf { s with uplinks := us } (anyEntered s.uplinks us) flagUplink, liveOf us, ?_, fun u => ?_, fun hsame => ?_,
    fun hne => ?_⟩
  · by_cases he : entered
    · exact .inl ⟨he, by rw [hentered.mpr he]; rfl⟩
    · exact .inr ⟨he, by rw [Bool.eq_false_iff.mpr (mt hentered.mp he)]; rfl⟩
  · rw [getLsbD_liveOf, isLive_iff]
  · exact if_pos (by simpa using hsame)
  · rw [watchStep, reportLive, if_neg (by simpa using hne)]
    simp only [State.raiseIf_live, State.raiseIf_lp0, State.raiseIf_lp1, State.raiseIf_ackTimeout, takeReport_eq]

end Sys2Proof.Proofs
end

section
/-! PROOFS. What the requests served by Uplink Watch do: Configure Uplink, Set Admin and Configure Scan (O18 to O20). -/
namespace Sys2Proof.Proofs
open Sys2Proof.Machine Sys2Proof.Safety Sys2Proof.Claims

/-! ### A well-formed request frame, judged while the interface listens -/

theorem be16_bytes (w : BitVec 16) : be16 (w.extractLsb' 8 8) (w.extractLsb' 0 8) = w := by
  rw [be16, BitVec.extractLsb'_append_extractLsb'_eq_extractLsb' (by rfl)]
  exact BitVec.extractLsb'_eq_self

theorem be32_bytes (w : BitVec 32) :
    be32 (w.extractLsb' 24 8) (w.extractLsb' 16 8) (w.extractLsb' 8 8) (w.extractLsb' 0 8) = w := by
  rw [be32, BitVec.extractLsb'_append_extractLsb'_eq_extractLsb' (by rfl),
    BitVec.extractLsb'_append_extractLsb'_eq_extractLsb' (by rfl), BitVec.extractLsb'_append_extractLsb'_eq_extractLsb' (by rfl)]
  exact BitVec.extractLsb'_eq_self

/-- The header of a frame gives back its payload (R170). -/
theorem payloadOf_frameRest {payload : List Byte} (h : payload.length < 65536) : payloadOf (frameRest payload) = some payload := by
  simp only [frameRest, bytes16, List.cons_append, List.nil_append, payloadOf, be16_bytes]
  rw [if_pos (by rw [BitVec.toNat_ofNat]; exact Nat.mod_eq_of_lt h)]

theorem frameRest_length (payload : List Byte) : (frameRest payload).length = payload.length + 2 := by
  simp only [frameRest, bytes16, List.length_append, List.length_cons, List.length_nil]; omega

section Listening
variable {α : Type} {dec : List Byte → Option α} {payload : List Byte} {a : α} {s : State}

/-- A frame whose payload decodes is served, with a fill byte shifted out for each of its bytes. -/
theorem takeRequest_frame (serve : α → State → State) (hlen : payload.length < 65536) (hdec : dec payload = some a)
    (hl : Listens s) : takeRequest dec (frameRest payload) serve s = serve a (fed (payload.length + 2) s) := by
  obtain ⟨-, hmrst, hidle⟩ := hl
  rw [takeRequest_served serve hmrst hidle (by rw [payloadOf_frameRest hlen]; exact hdec), frameRest_length]
  rfl

/-- The same for a kind that two rows share, on the row the frame is of. -/
theorem takeOwnRequest_frame {own : α → Bool} (serve : α → State → State) (hlen : payload.length < 65536)
    (hdec : dec payload = some a) (hown : own a = true) (hl : Listens s) :
    takeOwnRequest dec own (frameRest payload) serve s = serve a (fed (payload.length + 2) s) := by
  have hrow : rowOf dec own (frameRest payload) = true := by
    rw [rowOf, payloadOf_frameRest hlen, Option.bind_some, hdec]; exact hown
  rw [takeOwnRequest, if_pos hrow, takeRequest_frame serve hlen hdec hl]

end Listening

theorem formReply_eq_replied (status : ReplyStatus) (payload : List Byte) (s : State) :
    formReply status payload s = replied status payload s := rfl

theorem decodeChoice_byteOfBool (b : Bool) : decodeChoice (byteOfBool b) = some b := by cases b <;> rfl

/-! ### Configure Uplink (R20, R21) -/

/-- The option byte carries line_enable, degraded_is_dark and flap_limit, and 0 in its reserved bits (R171). -/
theorem encodeConfigOptions_bits (c : UplinkConfig) :
    (encodeConfigOptions c).getLsbD 0 = c.lineEnable ∧ (encodeConfigOptions c).getLsbD 1 = c.degradedIsDark ∧
      (encodeConfigOptions c).getLsbD 2 = false ∧ (encodeConfigOptions c).getLsbD 3 = false ∧
      (encodeConfigOptions c).extractLsb' 4 4 = c.flapLimit := by
  unfold encodeConfigOptions
  generalize c.lineEnable = l
  generalize c.degradedIsDark = d
  generalize c.flapLimit = f
  decide +revert

theorem decodeConfigureUplink_encode (b : Byte) (c : UplinkConfig) :
    decodeConfigureUplink (b :: encodeConfig c) = some (uplinkOfByte b, c) := by
  obtain ⟨hline, hdegraded, hreserved2, hreserved3, hflap⟩ := encodeConfigOptions_bits c
  simp only [encodeConfig, bytes16, List.cons_append, List.nil_append, decodeConfigureUplink, hline, hdegraded, hreserved2,
    hreserved3, hflap, be16_bytes]
  rfl

theorem clampConfig_eq (c : UplinkConfig) : clampConfig c = storedConfig c := by
  have hwindow : c.flapWindow = 0#8 ↔ c.flapWindow.toNat = 0 := by rw [← BitVec.toNat_inj]; rfl
  have hhold : c.holdTime = 0#16 ↔ c.holdTime.toNat = 0 := by rw [← BitVec.toNat_inj]; rfl
  simp only [clampConfig, storedConfig, hwindow, hhold]

/-- Configure Uplink on one record: a changed flap limit clears the count, then a changed input of d re-evaluates it (R21). -/
theorem configure_eq (c : UplinkConfig) (v : Uplink) : v.configure (clampConfig c) =
    let w := { v with config := storedConfig c
                      onset := if c.flapLimit = v.config.flapLimit then v.onset else 0
                      window := if c.flapLimit = v.config.flapLimit then v.window else .stopped }
    if c.lineEnable = v.config.lineEnable ∧ c.degradedIsDark = v.config.degradedIsDark then w else w.reevaluate := by
  have hlimit : (clampConfig c).flapLimit = c.flapLimit := rfl
  have hline : (clampConfig c).lineEnable = c.lineEnable := rfl
  have hdegraded : (clampConfig c).degradedIsDark = c.degradedIsDark := rfl
  simp only [Uplink.configure, hlimit, hline, hdegraded, ← clampConfig_eq]
  by_cases hl : c.flapLimit = v.config.flapLimit
  · simp only [if_pos hl]
  · simp only [if_neg hl]

/-- Settles O18: the eight bytes decode to the fields, and the request is a step of the named uplink and its reply. -/
theorem configureUplinkStoresClampedFields : Obligations.ConfigureUplinkStoresClampedFields := by
  intro b u c s hl hu v w hv hw
  subst hv hw
  have hnamed : uplinkOfByte b = u := Fin.ext hu.symm
  have hlen : (b :: encodeConfig c).length = 8 := rfl
  have hserved := takeRequest_frame
    (fun f s => formReply .ok (byteOfNat f.1.val :: encodeConfig (clampConfig f.2)) (stepUplink f.1 (Uplink.configure (clampConfig f.2)) s))
    (by rw [hlen]; decide) (decodeConfigureUplink_encode b c) hl
  simp only [exec, execConfigureUplink, unlessReset_runs hl.1]
  rw [hserved, hnamed, hlen, stepUplink_eq, configure_eq, clampConfig_eq]
  rfl

/-! ### Set Admin (R15, R16) -/

theorem decodeSetAdmin_encode (set : Bool) (us : UplinkSet) : decodeSetAdmin (byteOfBool set :: bytes32 us) = some (set, us) := by
  simp only [bytes32, decodeSetAdmin, decodeChoice_byteOfBool, be32_bytes, Option.map_some]

/-- A step of the uplinks of a set, by an operation that acts only where a condition holds. -/
theorem stepUplinks_where (us : UplinkSet) (f g : Uplink → Uplink) (P : Uplink → Prop) [DecidablePred P]
    (hf : ∀ v, f v = if P v then g v else v) (s : State) :
    stepUplinks us (fun _ => f) s =
      watchStep (Vector.ofFn fun u : Fin 32 => if us.getLsbD u.val = true ∧ P s.uplinks[u] then g s.uplinks[u] else s.uplinks[u]) s := by
  refine congrArg (fun r => watchStep (Vector.ofFn r) s) (funext fun u => ?_)
  by_cases hu : us.getLsbD u.val = true
  · simp only [hu, if_true, true_and, hf]
  · simp only [hu, if_false, false_and, Bool.false_eq_true]

@[simp] theorem fed_uplinks (n : Nat) (s : State) : (fed n s).uplinks = s.uplinks := rfl
@[simp] theorem fed_scan (n : Nat) (s : State) : (fed n s).scan = s.scan := rfl

theorem setAdmin_length (set : Bool) (us : UplinkSet) : (byteOfBool set :: bytes32 us).length = 5 := rfl

/-- A Set Admin frame with action clear, taken while the interface listens. -/
theorem exec_setAdminClear {s : State} (hl : Listens s) (us : UplinkSet) :
    exec (.setAdminClear (encodeSetAdmin false us)) s =
      .next (replied .ok [] (stepUplinks us (fun _ => Uplink.adminClear) (fed 7 s))) := by
  simp only [exec, execSetAdminClear, unlessReset_runs hl.1, encodeSetAdmin]
  rw [takeOwnRequest_frame _ (by rw [setAdmin_length]; decide) (decodeSetAdmin_encode false us) rfl hl, setAdmin_length,
    formReply_eq_replied]

/-- A Set Admin frame with action set, taken while the interface listens. -/
theorem exec_setAdminSet {s : State} (hl : Listens s) (us : UplinkSet) :
    exec (.setAdminSet (encodeSetAdmin true us)) s =
      .next (replied .ok [] (stepUplinks us (fun _ => Uplink.adminSet) (fed 7 s))) := by
  simp only [exec, execSetAdminSet, unlessReset_runs hl.1, encodeSetAdmin]
  rw [takeOwnRequest_frame _ (by rw [setAdmin_length]; decide) (decodeSetAdmin_encode true us) rfl hl, setAdmin_length,
    formReply_eq_replied]

/-- Settles O19: both actions are one step of the named uplinks and its reply. -/
theorem setAdminMovesNamedUplinks : Obligations.SetAdminMovesNamedUplinks := by
  intro us s hl
  rw [exec_setAdminClear hl, exec_setAdminSet hl]
  constructor
  · rw [stepUplinks_where us Uplink.adminClear
      (fun v => { v with state := .adminDown, qualify := .stopped, window := .stopped, onset := 0 }) (fun v => v.state ≠ .adminDown)
      fun v => (ite_not ..).symm, fed_uplinks]
  · rw [stepUplinks_where us Uplink.adminSet Uplink.enterByDarkness (fun v => v.state = .adminDown) fun v => rfl, fed_uplinks]
    simp only [enterByDarkness_eq]

/-! ### Configure Scan (R3) -/

theorem decodeConfigureScan_encode (enable : Bool) (p : BitVec 16) :
    decodeConfigureScan (byteOfBool enable :: bytes16 p) = some (enable, p) := by
  simp only [bytes16, decodeConfigureScan, decodeChoice_byteOfBool, be16_bytes, Option.map_some]

/-- A Configure Scan frame with enable yes, taken while the interface listens. -/
theorem exec_configureScanEnable {s : State} (hl : Listens s) (p : BitVec 16) :
    exec (.configureScanEnable (encodeConfigureScan true p)) s = .next (scanReply (enableScan p (fed 5 s))) := by
  have hserved := takeOwnRequest_frame (own := fun f => f.1) (fun f s => scanReply (enableScan f.2 s))
    (by simp [bytes16] : (byteOfBool true :: bytes16 p).length < 65536) (decodeConfigureScan_encode true p) rfl hl
  simp only [exec, execConfigureScanEnable, unlessReset_runs hl.1, encodeConfigureScan, hserved]
  rfl

/-- A Configure Scan frame with enable no, taken while the interface listens. -/
theorem exec_configureScanDisable {s : State} (hl : Listens s) (p : BitVec 16) :
    exec (.configureScanDisable (encodeConfigureScan false p)) s = .next (scanReply (disableScan p (fed 5 s))) := by
  have hserved := takeOwnRequest_frame (own := fun f => !f.1) (fun f s => scanReply (disableScan f.2 s))
    (by simp [bytes16] : (byteOfBool false :: bytes16 p).length < 65536) (decodeConfigureScan_encode false p) rfl hl
  simp only [exec, execConfigureScanDisable, unlessReset_runs hl.1, encodeConfigureScan, hserved]
  rfl

/-- The reply carries the scan state and period of the state it is formed in. -/
theorem scanReply_eq {t : State} {c : Scan} (h : t.scan = c) :
    scanReply t = replied .ok (scanStateCode c.state :: bytes16 c.period) t := by rw [scanReply, h]; rfl

/-- The records after every code is set to OK. -/
theorem stepUplinks_okCodes (s : State) : stepUplinks (BitVec.allOnes 32) (fun _ => Uplink.setCode .ok) s =
    watchStep (Vector.ofFn fun u : Fin 32 =>
      if s.uplinks[u].code = .ok then s.uplinks[u] else Uplink.reevaluate { s.uplinks[u] with code := .ok }) s := by
  simp only [stepUplinks_all, Uplink.setCode, eq_comm]

/-- Settles O20: in each scan state, the request's own change and then its reply. -/
theorem configureScanStartsAndStops : Obligations.ConfigureScanStartsAndStops := by
  intro p q s hl hq okCodes hcodes
  have hclamp : clampPeriod p = q := hq.symm
  rw [exec_configureScanEnable hl, exec_configureScanDisable hl]
  subst hcodes
  refine ⟨fun hoff => ⟨?_, ?_⟩, fun hon => ⟨?_, _, rfl, rfl, rfl, ?_⟩⟩
  · rw [enableScan, fed_scan, if_pos hoff, hclamp, stepUplinks_okCodes, scanReply_eq (watchStep_scan _ _)]
    rfl
  · rw [disableScan, fed_scan, if_pos hoff, hclamp, scanReply_eq rfl, hoff]
    rfl
  · rw [enableScan, fed_scan, if_neg hon, hclamp, scanReply_eq rfl]
    have hcode : scanStateCode s.scan.state = if s.scan.state = .stale then 0x02#8 else 0x01#8 := by
      cases hs : s.scan.state <;> simp_all [scanStateCode]
    rw [← hcode]
  · rw [disableScan, fed_scan, if_neg hon, hclamp, stepUplinks_okCodes, scanReply_eq (watchStep_scan _ _), State.raiseIf_scan]
    simp only [State.raiseIf_uplinks]
    exact congrArg (fun t => Host.Outcome.next (replied .ok (0x00#8 :: bytes16 q) (watchStep _ t)))
      (raiseIf_eq_ite _ _ _ _ (by simp))

end Sys2Proof.Proofs
end

section
/-! PROOFS. The full reset: its pin, the init sweep, and the state it leaves, which meets every invariant (O3, O13). -/
namespace Sys2Proof.Proofs
open Sys2Proof.Machine Sys2Proof.Safety Sys2Proof.Claims

/-! ### The state after a full reset -/

theorem getElem_reset_uplinks (u : Fin 32) : State.reset.uplinks[u] = Uplink.reset := by simp [State.reset]

theorem getElem_reset_chains (u : Fin 32) : State.reset.table.chains[u] = [] := by simp [State.reset, Table.reset]

theorem group_reset (g : Nat) : State.reset.group g = Group.reset := rfl

/-- The reset state is its own full reset. -/
theorem fullReset_reset : State.reset.fullReset = State.reset := rfl

/-- With every chain empty no link is in use. -/
theorem linksIn_reset : linksIn State.reset.table.chains = 0 := by
  simp only [linksIn, getElem_reset_chains, List.length_nil, List.sum_eq_zero_iff, List.mem_map]
  rintro n ⟨u, -, rfl⟩
  rfl

theorem portsInv_reset : PortsInv State.reset := by
  refine ⟨fun h => absurd h (by decide), ?_, ?_, ?_, ?_⟩ <;> refine ⟨?_, ?_⟩ <;> decide

theorem retractsInv_reset : RetractsInv State.reset :=
  ⟨⟨by decide, by decide⟩, sparseWf_nil _, fun _ he => absurd he List.not_mem_nil⟩

theorem directoryOk_reset (s : State) : DirectoryOk s Port.reset := ⟨sparseWf_nil _, fun _ he => absurd he List.not_mem_nil⟩

theorem directoryInv_reset : DirectoryInv State.reset := by
  obtain ⟨hheld, hanswers, -, hquiet, -⟩ := portsInv_reset
  exact ⟨hheld, fun _ => ⟨rfl, rfl⟩, sparseWf_nil _, hanswers, hquiet, directoryOk_reset _, directoryOk_reset _⟩

theorem groupsInv_reset : GroupsInv State.reset := ⟨⟨sparseWf_nil _, fun _ he => absurd he List.not_mem_nil⟩, trivial⟩

theorem chainsOk_reset : ChainsOk State.reset := by
  intro u
  rw [getElem_reset_chains]
  exact ⟨List.nodup_nil, fun g hg => absurd hg List.not_mem_nil, fun _ he => absurd he List.not_mem_nil⟩

theorem walkInv_reset : WalkInv State.reset :=
  ⟨fun _ => ⟨rfl, rfl⟩, sparseWf_nil _, chainsOk_reset, ⟨List.nodup_nil, by decide, rfl, fun _ => rfl⟩, trivial⟩

theorem linksInv_reset : LinksInv State.reset := by
  refine ⟨groupsInv_reset, chainsOk_reset, ?_⟩
  rw [LinksOk, linksIn_reset]
  rfl

theorem mgmtInv_reset : MgmtInv State.reset :=
  ⟨fun h => absurd h (by decide), fun h => absurd h (by decide), rfl⟩

/-- Settles O3: block by block, the reset values meet the conditions. -/
theorem resetMeetsEveryInvariant : Obligations.ResetMeetsEveryInvariant := by
  have hsettled : SettledInv State.reset :=
    (settledInv_iff _).mpr ⟨fun h => absurd h (by decide), by rw [← fullReset_reset]; exact watchInv_fullReset _⟩
  have huplinks : UplinksOk State.reset := by rw [← fullReset_reset]; exact uplinksOk_fullReset _
  exact ⟨huplinks, (scanOk_iff _).mpr scanInOrder_reset, hsettled, portsInv_reset, retractsInv_reset, directoryInv_reset,
    groupsInv_reset, walkInv_reset, linksInv_reset, mgmtInv_reset⟩

/-! ### The pin and the sweep -/

theorem State.setPort_port (s : State) (i : PortId) : s.setPort i (s.port i) = s := by cases i <;> rfl

/-- A port at its full-reset values whose lane held its lock sends vector 0, which names every uplink (R98, R112). -/
theorem syncIfLocked_fresh {i : PortId} {s : State} {locked : Bool} (hport : s.port i = { Port.reset with locked := locked })
    (hlive : s.live = 0#32) (htimeout : s.ackTimeout = 20#8) :
    (if (s.port i).locked then enterSync i s else s) = (s.setPort i (bootPort locked)).raiseIf locked flagPort := by
  cases locked
  · have hkept : s.setPort i (bootPort false) = s := by
      have hreset : bootPort false = s.port i := hport.symm
      rw [hreset, State.setPort_port]
    rw [State.raiseIf_false, hkept, hport]
    rfl
  · rw [hport, if_pos rfl]
    simp only [enterSync, hport, hlive, htimeout]
    rfl

/-- The end of a full reset: each port is its boot port, and the PORT flag is set when a lane held its lock (R112). -/
theorem takeHeldLocks_fresh {s : State} {locked0 locked1 : Bool} (h0 : s.lp0 = { Port.reset with locked := locked0 })
    (h1 : s.lp1 = { Port.reset with locked := locked1 }) (hlive : s.live = 0#32) (htimeout : s.ackTimeout = 20#8) :
    takeHeldLocks s = (((s.setPort .lp0 (bootPort locked0)).raiseIf locked0 flagPort).setPort .lp1 (bootPort locked1)).raiseIf
      locked1 flagPort := by
  have hfirst : (if s.lp0.locked then enterSync .lp0 s else s) = (s.setPort .lp0 (bootPort locked0)).raiseIf locked0 flagPort :=
    syncIfLocked_fresh (i := .lp0) h0 hlive htimeout
  rw [takeHeldLocks, hfirst]
  exact syncIfLocked_fresh (i := .lp1) (by simp [h1]) (by simp [hlive]) (by simp [htimeout])

/-- A full reset whose pin rises, from the full-reset values of every block (R112). -/
theorem takeHeldLocks_fullReset (s : State) : takeHeldLocks { s.fullReset with porst := false } = afterFullReset s := by
  have hflag : (0#8 : Byte) ||| flagPort = 0x08#8 ∧ (0x08#8 : Byte) ||| flagPort = 0x08#8 := by decide
  rw [takeHeldLocks_fresh (locked0 := s.lp0.locked) (locked1 := s.lp1.locked) rfl rfl rfl rfl]
  cases h0 : s.lp0.locked <;> cases h1 : s.lp1.locked <;>
    simp only [State.raiseIf_true, State.raiseIf_false, State.raise, State.setPort, afterFullReset, State.fullReset, State.reset,
      Mgmt.reset, h0, h1, hflag, Bool.or_self, Bool.or_false, Bool.or_true, if_true, if_false, Bool.false_eq_true] <;>
    rfl

/-- Settles O13: the pin's two edges, the sweep's end, and the reset values field by field. -/
theorem fullResetAndInitSweep : Obligations.FullResetAndInitSweep := by
  refine ⟨fun s hrun => ⟨fun hinit => ?_, fun hready => ?_⟩, fun s => ⟨fun hhigh => ?_, fun hlow hheld => ?_,
    getElem_reset_uplinks, group_reset, rfl, rfl, rfl, rfl, rfl, rfl, rfl, rfl, rfl, rfl, rfl, rfl, rfl, rfl, rfl,
    fun _ => rfl, rfl, rfl, rfl, rfl, rfl⟩⟩
  · simp only [exec, execInitSweepEnd, unlessReset_runs hrun, hinit, Bool.false_eq_true, if_false]
    rfl
  · simp only [exec, execInitSweepEnd, unlessReset_runs hrun, hready, if_true]
  · simp only [exec, execPorstNAssert, hhigh, Bool.false_eq_true, if_false]
    rfl
  · simp only [exec, execPorstNRelease, hlow, if_true]
    rw [← takeHeldLocks_fullReset, ← hheld hlow]

end Sys2Proof.Proofs
end

section
/-! PROOFS. One group of the Path Table: the write of its record with its links, and what the group accesses write (R30 to R43). -/
namespace Sys2Proof.Proofs
open Sys2Proof.Machine Sys2Proof.Safety Sys2Proof.Claims

/-! ### Writing one group -/

/-- The uplinks on whose chains a group with this record stands (R38). -/
def linksOf (r : Group) : UplinkSet := if r.state = .active then related r.members else 0#32

/-- Group g takes the record r, and its links follow (R38, R39). -/
def writeGroup (g : Nat) (r : Group) (s : State) : State := relink g (linksOf (s.group g)) (linksOf r) (s.setGroup g r)

theorem linksOf_active {r : Group} (h : r.state = .active) : linksOf r = related r.members := if_pos h

theorem linksOf_inactive {r : Group} (h : r.state ≠ .active) : linksOf r = 0#32 := if_neg h

theorem editChain_same (g : Nat) (b : Bool) (c : List Nat) : editChain g b b c = c := by cases b <;> simp [editChain]

theorem editCursor_same (g : Nat) (b : Bool) (c : List Nat) (cursor : Option Nat) : editCursor g b b c cursor = cursor := by
  cases b <;> simp [editCursor]

theorem editJob_same (g : Nat) (a : UplinkSet) (chains : Vector (List Nat) 32) (j : Option RunningJob) :
    editJob g a a chains j = j := by
  match j with
  | none => rfl
  | some (.sweep _ _ _) => rfl
  | some (.uplink _ _) => simp only [editJob, editCursor_same]

theorem relink_chain (g : Nat) (old new : UplinkSet) (s : State) (u : Fin 32) :
    (relink g old new s).table.chains[u] = editChain g (old.getLsbD u.val) (new.getLsbD u.val) s.table.chains[u] := by
  simp [relink]

theorem relink_walk (g : Nat) (old new : UplinkSet) (s : State) :
    (relink g old new s).walk = { s.walk with job := editJob g old new s.table.chains s.walk.job } := rfl

/-- A group whose relation does not change keeps every chain, the pool and the cursor as they are. -/
theorem relink_same (g : Nat) (a : UplinkSet) (s : State) : relink g a a s = s := by
  have hchains : (Vector.ofFn fun u : Fin 32 => s.table.chains[u]) = s.table.chains := by ext; simp
  simp only [relink, editChain_same, editJob_same, hchains, Nat.add_sub_cancel]

/-- A write that leaves the group's relation as it was is a write of its record. -/
theorem writeGroup_sameLinks {g : Nat} {r : Group} {s : State} (h : linksOf r = linksOf (s.group g)) :
    writeGroup g r s = s.setGroup g r := by rw [writeGroup, h, relink_same]

theorem writeGroup_group (g : Nat) (r : Group) (s : State) (h : Nat) :
    (writeGroup g r s).group h = if h = g then r else s.group h := by
  rw [writeGroup, relink_group, State.group_setGroup]

@[simp] theorem writeGroup_mgmt (g : Nat) (r : Group) (s : State) : (writeGroup g r s).mgmt = s.mgmt := by simp [writeGroup]
@[simp] theorem writeGroup_ready (g : Nat) (r : Group) (s : State) : (writeGroup g r s).table.ready = s.table.ready := by
  simp [writeGroup]
theorem writeGroup_wf (g : Nat) (r : Group) {s : State} (h : SparseWf Group.reset s.table.groups) :
    SparseWf Group.reset (writeGroup g r s).table.groups := by
  rw [writeGroup, relink_groups]; exact s.setGroup_wf g r h

theorem writeGroup_chain (g : Nat) (r : Group) (s : State) (u : Fin 32) : (writeGroup g r s).table.chains[u] =
    editChain g ((linksOf (s.group g)).getLsbD u.val) ((linksOf r).getLsbD u.val) s.table.chains[u] := by
  rw [writeGroup, relink_chain, State.setGroup_chains]

theorem writeGroup_walk (g : Nat) (r : Group) (s : State) : (writeGroup g r s).walk =
    { s.walk with job := editJob g (linksOf (s.group g)) (linksOf r) s.table.chains s.walk.job } := relink_walk ..

/-! ### What the accesses write -/

/-- A group retired, its content kept (R35). -/
def retiredGroup (r : Group) : Group := { r with state := .retiring, gen := nextGen r.gen }

/-- An ACTIVE group after Modify Group finds its content changed (R34). -/
def rewrittenGroup (f : ModifyFields) (r : Group) (S : UplinkSet) : Group := { modifiedGroup f r S with gen := nextGen r.gen }

/-- A group whose stored map a visit replaces by a placement (R43). -/
def placedGroup (kind : Kind) (r : Group) (S : UplinkSet) : Group :=
  { r with map := place kind r.members r.floor r.map S, gen := nextGen r.gen }

theorem refusalOf_none {expected : Generation} {r : Group} (h : refusalOf expected r = none) : r.state = .active := by
  cases hs : r.state <;> simp_all [refusalOf]

theorem installAccess_active {f : InstallFields} {s : State} (h : (s.group f.group).state = .active) :
    installAccess f s = groupReply .exists_ f.group s := by simp [installAccess, h]

theorem installAccess_retiring {f : InstallFields} {s : State} (h : (s.group f.group).state = .retiring) :
    installAccess f s = groupReply .pending f.group s := by simp [installAccess, h]

theorem installAccess_free {f : InstallFields} {s : State} (h : (s.group f.group).state = .free) :
    installAccess f s = groupReply .ok f.group (reportChange f.group (nextGen (s.group f.group).gen)
      (writeGroup f.group (installedGroup f (s.group f.group) s.settled) s)) := by
  have hold : linksOf (s.group f.group) = 0#32 := linksOf_inactive (by simp [h])
  simp only [installAccess, h, writeGroup, hold]
  rfl

theorem modifyAccess_refused {f : ModifyFields} {s : State} {status : ReplyStatus}
    (h : refusalOf f.expected (s.group f.group) = some status) : modifyAccess f s = groupReply status f.group s := by
  simp [modifyAccess, h]

theorem modifyAccess_unchanged {f : ModifyFields} {s : State} (h : refusalOf f.expected (s.group f.group) = none)
    (hsame : sameContent (s.group f.group) (modifiedGroup f (s.group f.group) s.settled) = true) :
    modifyAccess f s = groupReply .ok f.group s := by simp [modifyAccess, h, hsame]

theorem modifyAccess_changed {f : ModifyFields} {s : State} (h : refusalOf f.expected (s.group f.group) = none)
    (hnew : sameContent (s.group f.group) (modifiedGroup f (s.group f.group) s.settled) = false) :
    modifyAccess f s = groupReply .ok f.group (reportChange f.group (nextGen (s.group f.group).gen)
      (writeGroup f.group (rewrittenGroup f (s.group f.group) s.settled) s)) := by
  have hactive := refusalOf_none h
  have hwritten : linksOf (rewrittenGroup f (s.group f.group) s.settled) = related f.members := linksOf_active hactive
  simp only [modifyAccess, h, hnew, writeGroup, linksOf_active hactive, hwritten]
  rfl

theorem retireAccess_refused {g : Nat} {expected : Generation} {s : State} {status : ReplyStatus}
    (h : refusalOf expected (s.group g) = some status) : retireAccess g expected s = groupReply status g s := by
  simp [retireAccess, h]

theorem retireAccess_applied {g : Nat} {expected : Generation} {s : State} (h : refusalOf expected (s.group g) = none) :
    retireAccess g expected s = groupReply .ok g (completeGroup g (reportChange g (nextGen (s.group g).gen)
      (writeGroup g (retiredGroup (s.group g)) s))) := by
  have hwritten : linksOf (retiredGroup (s.group g)) = 0#32 := linksOf_inactive (by simp [retiredGroup])
  simp only [retireAccess, h, writeGroup, linksOf_active (refusalOf_none h), hwritten]
  rfl

/-- A completed retirement has no links, before or after. -/
theorem linksOf_completed {r : Group} (h : r.state = .retiring) : linksOf r.completed = linksOf r := by
  rw [linksOf_inactive (r := r) (by simp [h]), linksOf_inactive (by simp [Group.completed, Group.reset])]

/-- A completed retirement is a write of the record: a RETIRING group has no links to lose. -/
theorem writeGroup_completed {g : Nat} {s : State} (h : (s.group g).state = .retiring) :
    writeGroup g (s.group g).completed s = s.setGroup g (s.group g).completed :=
  writeGroup_sameLinks (linksOf_completed h)

/-- A visit's write keeps the group's state and members, and with them its links. -/
theorem writeGroup_placed (g : Nat) (kind : Kind) (s : State) (S : UplinkSet) :
    writeGroup g (placedGroup kind (s.group g) S) s = s.setGroup g (placedGroup kind (s.group g) S) := writeGroup_sameLinks rfl

@[simp] theorem persist_chains (g : Nat) (map : BucketMap) (s : State) : (persist g map s).table.chains = s.table.chains := by
  rcases persist_cases g map s with ⟨-, h⟩ | ⟨-, h⟩
  · rw [h]
  · rw [h]; rfl

/-! ### Retirements completed, all at once (R91, R128) -/

/-- A change of every record that leaves the reset record as it is, read by group number. -/
theorem sparseGet_sparseMap {α : Type} [DecidableEq α] {dflt : α} {f : Nat → α → α} {l : SparseTable α}
    (hl : SparseWf dflt l) (hf : ∀ k, f k dflt = dflt) (k : Nat) : sparseGet dflt (sparseMap dflt f l) k = f k (sparseGet dflt l k) := by
  by_cases hk : f k (sparseGet dflt l k) = dflt
  · rw [hk]
    by_contra hne
    obtain ⟨v, hv, heq, hvne⟩ := (mem_sparseMap dflt f l _).mp (mem_of_sparseGet dflt _ k hne)
    have hget := sparseGet_of_mem dflt l hl _ hv
    simp only at hget
    rw [hget] at hk
    exact hvne hk
  · have hlisted := mem_of_sparseGet dflt l k fun h => hk (by rw [h]; exact hf k)
    exact sparseGet_of_mem dflt _ (sparseWf_sparseMap dflt f l hl) (k, f k (sparseGet dflt l k))
      ((mem_sparseMap dflt f l _).mpr ⟨_, hlisted, rfl, hk⟩)

/-- Every RETIRING group that no entry names is completed, every other one kept (R91, R128). -/
theorem completeAll_group {s : State} (h : SparseWf Group.reset s.table.groups) (g : Nat) : (completeAll s).group g =
    if (s.group g).state == .retiring && !s.named g then (s.group g).completed else s.group g := by
  simp only [completeAll, State.group, State.raiseIf_table]
  exact sparseGet_sparseMap h (fun _ => rfl) g

theorem completeAll_wf {s : State} (h : SparseWf Group.reset s.table.groups) :
    SparseWf Group.reset (completeAll s).table.groups := by
  simp only [completeAll, State.raiseIf_table]
  exact sparseWf_sparseMap _ _ _ h

@[simp] theorem completeAll_chains (s : State) : (completeAll s).table.chains = s.table.chains := by simp [completeAll]
@[simp] theorem completeAll_freeLinks (s : State) : (completeAll s).table.freeLinks = s.table.freeLinks := by simp [completeAll]
@[simp] theorem completeAll_ready (s : State) : (completeAll s).table.ready = s.table.ready := by simp [completeAll]
@[simp] theorem completeAll_iface (s : State) : (completeAll s).mgmt.iface = s.mgmt.iface := by simp [completeAll]

end Sys2Proof.Proofs
end

section
/-! PROOFS. What one command can do to the table, the Walk Engine and the group request in progress. Every command's meaning writes no
record, or one, or is a full reset or the sweep's end (`exec_tableChange`), so an invariant of these parts is proved once for each. -/
namespace Sys2Proof.Proofs
open Sys2Proof.Machine Sys2Proof.Safety Sys2Proof.Claims

/-! ### The changes -/

/-- A group request that has passed its checks (R139, R140). -/
def RequestChecked : GroupRequest → Prop
  | .install f => f.group < Config.groups ∧ validMembers f.members = true
  | .modify f => f.group < Config.groups ∧ validMembers f.members = true
  | .retire g _ => g < Config.groups
  | .read g => g < Config.groups

/-- Two states that agree in the table and the engine, the second with no group request that the first has not. -/
structure SameTable (s t : State) : Prop where
  table : t.table = s.table
  walk : t.walk = s.walk
  request : ∀ r, t.mgmt.iface = .serving (.group r) → s.mgmt.iface = .serving (.group r)

/-- The changes that write no group record. -/
inductive WalkChange : State → State → Prop where
  | quiet {s t : State} : SameTable s t → WalkChange s t
  | presented {s : State} (r : GroupRequest) : RequestChecked r → WalkChange s (beginServing (.group r) s)
  | granted {s : State} (q : Requester) : s.table.ready = true →
      WalkChange s { s with table := { s.table with lastGranted := q } }
  | visited {s : State} {u : Fin 32} {g h : Nat} : s.walk.job = some (.uplink u (some g)) →
      successor g s.table.chains[u] = some h → WalkChange s { s with walk := { s.walk with job := some (.uplink u (some h)) } }
  | swept {s : State} {first count next : Nat} : s.walk.job = some (.sweep first count next) → next + 1 < first + count →
      WalkChange s { s with walk := { s.walk with job := some (.sweep first count (next + 1)) } }
  | ended {s : State} : WalkChange s (endJob s)
  | queued {s : State} (first count : Nat) : s.table.ready = true → rangeRefused first count = false →
      sweepsWaiting s.walk.queue < Config.maxSweeps →
      WalkChange s (startIfIdle { s with walk := { s.walk with queue := s.walk.queue ++ [.sweep first count] } })
  | resettled {s : State} : WalkChange s (resettle s)
  | trans {s m t : State} : WalkChange s m → WalkChange m t → WalkChange s t

/-- The record a command may give a group. -/
inductive RecordWrite (s : State) : Nat → Group → Prop where
  | installed (f : InstallFields) : s.table.ready = true → s.mgmt.iface = .serving (.group (.install f)) →
      (s.group f.group).state = .free → RecordWrite s f.group (installedGroup f (s.group f.group) s.settled)
  | modified (f : ModifyFields) : s.table.ready = true → s.mgmt.iface = .serving (.group (.modify f)) →
      (s.group f.group).state = .active → RecordWrite s f.group (rewrittenGroup f (s.group f.group) s.settled)
  | retired (g : Nat) : s.table.ready = true → (s.group g).state = .active → RecordWrite s g (retiredGroup (s.group g))
  | completed (g : Nat) : (s.group g).state = .retiring → RecordWrite s g (s.group g).completed
  | placed (g : Nat) (kind : Kind) : s.table.ready = true →
      place kind (s.group g).members (s.group g).floor (s.group g).map s.settled ≠ (s.group g).map →
      RecordWrite s g (placedGroup kind (s.group g) s.settled)

/-- The changes that write group records: of one group, in one write or in the two of a retirement that completes at once, or of every
group whose retirement completes. -/
inductive RecordChange (s : State) : State → Prop where
  | written {g : Nat} {r : Group} : RecordWrite s g r → RecordChange s (writeGroup g r s)
  | retiredAtOnce {g : Nat} {m : State} : s.table.ready = true → (s.group g).state = .active →
      SameTable (writeGroup g (retiredGroup (s.group g)) s) m → RecordChange s (writeGroup g (m.group g).completed m)
  | completed : RecordChange s (completeAll s)

/-- What a command does to the table, but for a full reset and the init sweep: at most one change of the records, among changes that write
none. -/
inductive TableChange : State → State → Prop where
  | kept {s t : State} : WalkChange s t → TableChange s t
  | wrote {s m n t : State} : WalkChange s m → RecordChange m n → WalkChange n t → TableChange s t

/-- The table and the engine at their full-reset values, no request in progress (R46). -/
structure TableCleared (t : State) : Prop where
  table : t.table = Table.reset
  walk : t.walk = Walk.reset
  iface : t.mgmt.iface = .idle

/-- The commands that take the table to its reset values: the two full resets, and the end of the init sweep. -/
inductive Clears (s : State) : Instr → State → Prop where
  | porstFell {t : State} : TableCleared t → Clears s .porstNAssert t
  | resetServed (n : Nat) {t : State} : s.mgmt.resetOwed = true → TableCleared t → Clears s (.readFrame n) t
  | sweepEnded : s.table.ready = false →
      Clears s .initSweepEnd (State.raise { s with table := { Table.reset with ready := true } } flagReady)

/-! ### Quiet changes -/

theorem SameTable.refl (s : State) : SameTable s s := ⟨rfl, rfl, fun _ => id⟩

theorem SameTable.trans {s m t : State} (h : SameTable s m) (h' : SameTable m t) : SameTable s t :=
  ⟨h'.table.trans h.table, h'.walk.trans h.walk, fun r hr => h.request r (h'.request r hr)⟩

/-- A change outside the table, the engine and the interface's state. -/
theorem SameTable.of_fields {s t : State} (htable : t.table = s.table) (hwalk : t.walk = s.walk)
    (hiface : t.mgmt.iface = s.mgmt.iface) : SameTable s t := ⟨htable, hwalk, fun _ hr => hiface ▸ hr⟩

/-- A state whose reply waits has no request in progress. -/
theorem SameTable.replied {s t : State} {r : Reply} (htable : t.table = s.table) (hwalk : t.walk = s.walk)
    (hiface : t.mgmt.iface = .replyReady r) : SameTable s t := ⟨htable, hwalk, fun q hq => by simp [hiface] at hq⟩

/-- The blocks outside the table, the engine and the interface take any values. -/
theorem SameTable.outside {s : State} {uplinks : Vector Uplink 32} {scan : Scan} {live settled : UplinkSet} {lp0 lp1 : Port}
    {timeout : Byte} {link : Link} {porst mrst : Bool} {pending : List Instr} :
    SameTable s { s with uplinks := uplinks, scan := scan, live := live, lp0 := lp0, lp1 := lp1, settled := settled
                         ackTimeout := timeout, link := link, porst := porst, mrst := mrst, pending := pending } :=
  ⟨rfl, rfl, fun _ hr => hr⟩

theorem SameTable.group {s t : State} (h : SameTable s t) (g : Nat) : t.group g = s.group g := by
  simp only [State.group, h.table]

section Quiet
variable {s t : State} (h : SameTable s t)
include h

/-- A further change outside the table, the engine and the interface's state. -/
theorem SameTable.then_fields {r : State} (htable : r.table = t.table) (hwalk : r.walk = t.walk)
    (hiface : r.mgmt.iface = t.mgmt.iface) : SameTable s r := h.trans (.of_fields htable hwalk hiface)

theorem SameTable.formReply (status : ReplyStatus) (payload : List Byte) : SameTable s (formReply status payload t) :=
  h.trans (.replied rfl rfl rfl)

theorem SameTable.raise (f : Byte) : SameTable s (t.raise f) := h.then_fields rfl rfl rfl

theorem SameTable.raiseIf (c : Bool) (f : Byte) : SameTable s (t.raiseIf c f) := by apply h.then_fields <;> simp

theorem SameTable.setPort (i : PortId) (p : Port) : SameTable s (t.setPort i p) := by apply h.then_fields <;> simp

theorem SameTable.reportChange (g : Nat) (n : Generation) : SameTable s (reportChange g n t) := h.then_fields rfl rfl rfl

theorem SameTable.countVisit : SameTable s (countVisit t) := h.then_fields rfl rfl rfl

theorem SameTable.barrierReply (status : ReplyStatus) (b : BarrierTest) : SameTable s (barrierReply status b t) :=
  h.trans (.replied rfl rfl rfl)

theorem SameTable.barrierCheck : SameTable s (barrierCheck t) := by
  rcases barrierCheck_cases t with ⟨b, -, -, hended⟩ | ⟨-, hkept⟩
  · rw [hended]; exact h.barrierReply ..
  · rwa [hkept]

theorem SameTable.enterSync (i : PortId) : SameTable s (enterSync i t) := .raise (h.setPort ..) _

theorem SameTable.syncIfLocked (i : PortId) : SameTable s (if (t.port i).locked then Machine.enterSync i t else t) := by
  split
  · exact h.enterSync i
  · exact h

theorem SameTable.takeHeldLocks : SameTable s (takeHeldLocks t) := (h.syncIfLocked .lp0).syncIfLocked .lp1

end Quiet

@[simp] theorem enterSync_iface (i : PortId) (s : State) : (enterSync i s).mgmt.iface = s.mgmt.iface := by simp [enterSync]

@[simp] theorem takeHeldLocks_iface (s : State) : (takeHeldLocks s).mgmt.iface = s.mgmt.iface := by
  simp only [takeHeldLocks]; split <;> split <;> simp

theorem WalkChange.refl (s : State) : WalkChange s s := .quiet (.refl s)

theorem TableChange.quiet {s t : State} (h : SameTable s t) : TableChange s t := .kept (.quiet h)

theorem TableChange.refl (s : State) : TableChange s s := .quiet (.refl s)

theorem TableChange.after {s m t : State} (h' : TableChange m t) (h : WalkChange s m) : TableChange s t := by
  cases h' with
  | kept hkept => exact .kept (h.trans hkept)
  | wrote hbefore hwrite hafter => exact .wrote (h.trans hbefore) hwrite hafter

theorem TableChange.andThen {s m t : State} (h : TableChange s m) (h' : WalkChange m t) : TableChange s t := by
  cases h with
  | kept hkept => exact .kept (hkept.trans h')
  | wrote hbefore hwrite hafter => exact .wrote hbefore hwrite (hafter.trans h')

theorem TableChange.written {s t : State} {g : Nat} {r : Group} (hwrite : RecordWrite s g r) (h : SameTable (writeGroup g r s) t) :
    TableChange s t := .wrote (.refl s) (.written hwrite) (.quiet h)

/-- Changes that write no record leave every record, every chain, the pool and READY as they were. -/
theorem WalkChange.keeps {s t : State} (h : WalkChange s t) : t.table.groups = s.table.groups ∧ t.table.chains = s.table.chains ∧
    t.table.freeLinks = s.table.freeLinks ∧ t.table.ready = s.table.ready := by
  induction h with
  | quiet hsame => rw [hsame.table]; exact ⟨rfl, rfl, rfl, rfl⟩
  | ended => simp [endJob]
  | queued | resettled => simp
  | presented | granted | visited | swept => exact ⟨rfl, rfl, rfl, rfl⟩
  | trans _ _ ih ih' =>
    obtain ⟨hgroups, hchains, hfree, hready⟩ := ih
    obtain ⟨hgroups', hchains', hfree', hready'⟩ := ih'
    exact ⟨hgroups'.trans hgroups, hchains'.trans hchains, hfree'.trans hfree, hready'.trans hready⟩

theorem WalkChange.group {s t : State} (h : WalkChange s t) (g : Nat) : t.group g = s.group g := by
  simp only [State.group, h.keeps.1]

/-! ### The frames and accesses around a meaning -/

/-- Every use of this meaning is such a change. -/
def Edits (f : State → State) : Prop := ∀ s, TableChange s (f s)

/-- A meaning that is quiet in every state. -/
theorem edits_quiet {f : State → State} (h : ∀ s, SameTable s (f s)) : Edits f := fun s => .quiet (h s)

theorem TableChange.reply (status : ReplyStatus) (payload : List Byte) (s : State) : TableChange s (formReply status payload s) :=
  .quiet (.formReply (.refl s) ..)

theorem TableChange.thenReply {s m : State} (h : TableChange s m) (status : ReplyStatus) (payload : List Byte) :
    TableChange s (formReply status payload m) := h.andThen (.quiet (.formReply (.refl m) ..))

theorem edits_formReply {status : ReplyStatus} {payload : State → List Byte} : Edits fun s => formReply status (payload s) s :=
  edits_quiet fun s => .formReply (.refl s) ..

theorem tableChange_unlessReset {s t : State} {f : State → State} (h : unlessReset s f = .next t) (hf : TableChange s (f s)) :
    TableChange s t := by
  rcases unlessReset_next h with ⟨-, rfl⟩ | ⟨-, rfl⟩
  · exact .refl t
  · exact hf

theorem edits_judgeFrame {n : Nat} {serve : State → State} (hserve : Edits serve) : Edits (judgeFrame n serve) := by
  intro s
  rcases judgeFrame_cases n serve s with ⟨-, h⟩ | ⟨-, -, h⟩ | ⟨-, -, h⟩ <;> rw [h]
  · exact .refl s
  · exact (hserve _).after (.quiet (.of_fields rfl rfl rfl))
  · exact .quiet (.of_fields rfl rfl rfl)

theorem edits_takeRequest {α : Type} {dec : List Byte → Option α} {rest : List Byte} {serve : α → State → State}
    (hserve : ∀ a, Edits (serve a)) : Edits (takeRequest dec rest serve) := by
  refine edits_judgeFrame fun s => ?_
  split
  · exact .reply ..
  · exact hserve _ s

theorem edits_takeOwnRequest {α : Type} {dec : List Byte → Option α} {own : α → Bool} {rest : List Byte}
    {serve : α → State → State} (hserve : ∀ a, Edits (serve a)) : Edits (takeOwnRequest dec own rest serve) := by
  intro s
  unfold takeOwnRequest
  split
  · exact edits_takeRequest hserve s
  · exact .refl s

theorem tableChange_takeRequest {α : Type} {dec : List Byte → Option α} {rest : List Byte} {serve : α → State → State} {s t : State}
    (h : unlessReset s (takeRequest dec rest serve) = .next t) (hserve : ∀ a, Edits (serve a)) : TableChange s t :=
  tableChange_unlessReset h (edits_takeRequest hserve s)

theorem tableChange_takeOwnRequest {α : Type} {dec : List Byte → Option α} {own : α → Bool} {rest : List Byte}
    {serve : α → State → State} {s t : State} (h : unlessReset s (takeOwnRequest dec own rest serve) = .next t)
    (hserve : ∀ a, Edits (serve a)) : TableChange s t := tableChange_unlessReset h (edits_takeOwnRequest hserve s)

theorem tableChange_whenReady {serve : State → State} {s : State} (hserve : s.table.ready = true → TableChange s (serve s)) :
    TableChange s (whenReady serve s) := by
  unfold whenReady
  split
  next hready => exact hserve hready
  next => exact .reply ..

theorem tableChange_access {q : Requester} {f : State → State} {s : State}
    (hf : s.table.ready = true → TableChange { s with table := { s.table with lastGranted := q } }
      (f { s with table := { s.table with lastGranted := q } })) : TableChange s (access q f s) := by
  rcases access_cases q f s with ⟨hgranted, h⟩ | ⟨-, h⟩ <;> rw [h]
  · have hready := (grantee_waits hgranted).1
    exact (hf hready).after (.granted q hready)
  · exact .refl s

/-! ### The meanings of the Path Table and the Walk Engine -/

theorem edits_presentGroupRequest {g : Nat} {members : Option (List Member)} {r : GroupRequest}
    (hr : g < Config.groups → (∀ ms ∈ members, validMembers ms = true) → RequestChecked r) :
    Edits (presentGroupRequest g members r) := by
  refine fun s => tableChange_whenReady fun _ => ?_
  split
  · exact .reply ..
  next hrange =>
    split
    · exact .reply ..
    next hvalid => exact .kept (.presented r (hr (by omega) fun ms hms => by simpa [Option.mem_def.mp hms] using hvalid))

theorem tableChange_installAccess {f : InstallFields} {s : State} (hready : s.table.ready = true)
    (hiface : s.mgmt.iface = .serving (.group (.install f))) : TableChange s (installAccess f s) := by
  cases hs : (s.group f.group).state with
  | active => rw [installAccess_active hs]; exact .reply ..
  | retiring => rw [installAccess_retiring hs]; exact .reply ..
  | free =>
    rw [installAccess_free hs]
    exact .written (.installed f hready hiface hs) (.formReply (.reportChange (.refl _) ..) ..)

theorem tableChange_modifyAccess {f : ModifyFields} {s : State} (hready : s.table.ready = true)
    (hiface : s.mgmt.iface = .serving (.group (.modify f))) : TableChange s (modifyAccess f s) := by
  cases href : refusalOf f.expected (s.group f.group) with
  | some status => rw [modifyAccess_refused href]; exact .reply ..
  | none =>
    cases hnew : sameContent (s.group f.group) (modifiedGroup f (s.group f.group) s.settled) with
    | true => rw [modifyAccess_unchanged href hnew]; exact .reply ..
    | false =>
      rw [modifyAccess_changed href hnew]
      exact .written (.modified f hready hiface (refusalOf_none href)) (.formReply (.reportChange (.refl _) ..) ..)

/-- A retirement that is complete is one write, or none. -/
theorem edits_completeGroup (g : Nat) : Edits (completeGroup g) := by
  intro s
  rcases completeGroup_cases g s with ⟨hretiring, -, h⟩ | ⟨-, h⟩ <;> rw [h]
  · rw [← writeGroup_completed hretiring]
    exact .written (.completed g hretiring) (.raise (.refl _) _)
  · exact .refl s

theorem tableChange_retireAccess {g : Nat} {expected : Generation} {s : State} (hready : s.table.ready = true) :
    TableChange s (retireAccess g expected s) := by
  cases href : refusalOf expected (s.group g) with
  | some status => rw [retireAccess_refused href]; exact .reply ..
  | none =>
    have hactive := refusalOf_none href
    have hsame : SameTable (writeGroup g (retiredGroup (s.group g)) s)
        (reportChange g (nextGen (s.group g).gen) (writeGroup g (retiredGroup (s.group g)) s)) := .reportChange (.refl _) ..
    rw [retireAccess_applied href]
    generalize reportChange g (nextGen (s.group g).gen) _ = m at hsame ⊢
    rcases completeGroup_cases g m with ⟨hretiring, -, h⟩ | ⟨-, h⟩ <;> rw [h]
    · rw [← writeGroup_completed hretiring]
      exact .wrote (.refl s) (.retiredAtOnce hready hactive hsame) (.quiet (.formReply (.raise (.refl _) _) ..))
    · exact .written (.retired g hready hactive) (hsame.formReply ..)

theorem edits_surveyAccess (v : Survey) : Edits (surveyAccess v) := by
  intro s
  simp only [surveyAccess]
  split
  · exact .reply ..
  · exact .quiet ⟨rfl, rfl, fun _ hr => by cases hr⟩

theorem tableChange_persist {g : Nat} {kind : Kind} {s : State} (hready : s.table.ready = true) :
    TableChange s (persist g (place kind (s.group g).members (s.group g).floor (s.group g).map s.settled) s) := by
  rcases persist_cases g (place kind (s.group g).members (s.group g).floor (s.group g).map s.settled) s with ⟨-, h⟩ | ⟨hne, h⟩ <;>
    rw [h]
  · exact .refl s
  · have hwrite := writeGroup_placed g kind s s.settled
    exact .written (.placed g kind hready hne) (hwrite ▸ .reportChange (.refl _) ..)

theorem tableChange_uplinkVisit {u : Fin 32} {g : Nat} {s : State} (hready : s.table.ready = true)
    (hjob : s.walk.job = some (.uplink u (some g))) : TableChange s (uplinkVisit u g s) := by
  have hvisit : TableChange s (countVisit (persist g ((s.group g).effectiveMap s.settled) s)) :=
    (tableChange_persist hready).andThen (.quiet (.countVisit (.refl _)))
  simp only [uplinkVisit]
  split
  next h hnext => exact hvisit.andThen (.visited (by simpa using hjob) (by simpa using hnext))
  next => exact hvisit.andThen .ended

theorem tableChange_sweepJobVisit {first count next : Nat} {s : State} (hready : s.table.ready = true)
    (hjob : s.walk.job = some (.sweep first count next)) : TableChange s (sweepJobVisit first count next s) := by
  have hkept (map : BucketMap) : (if (s.group next).state = .active then persist next map s else s).walk = s.walk := by
    split <;> simp
  have hvisit : TableChange s (countVisit
      (if (s.group next).state = .active then persist next (sweepMap (s.group next) s.settled) s else s)) := by
    split
    · exact (tableChange_persist hready).andThen (.quiet (.countVisit (.refl _)))
    · exact .quiet (.countVisit (.refl s))
  simp only [sweepJobVisit]
  split
  · exact hvisit.andThen (.trans (.quiet (.raise (.refl _) _)) .ended)
  next hmore => exact hvisit.andThen (.swept (by rw [countVisit_walk, hkept]; exact hjob) (by omega))

theorem tableChange_rebalance {first count : Nat} {s : State} (hready : s.table.ready = true) :
    TableChange s (rebalance first count s) := by
  unfold rebalance
  split
  · exact .reply ..
  next hrange =>
    split
    · exact .reply ..
    next hfull =>
      exact .kept (.trans (.queued first count hready (by simpa using hrange) (by omega)) (.quiet (.formReply (.refl _) ..)))

/-! ### The meanings of Uplink Watch and the ports -/

theorem walkChange_reportLive (live : UplinkSet) (s : State) : WalkChange s (reportLive live s) := by
  unfold reportLive
  dsimp only
  split
  · exact .refl s
  · exact .trans (.quiet .outside) .resettled

theorem walkChange_watchStep (us : Vector Uplink 32) (s : State) : WalkChange s (watchStep us s) := by
  have hflag (c : Bool) : SameTable s (State.raiseIf { s with uplinks := us } c flagUplink) :=
    .raiseIf .outside _ _
  exact .trans (.quiet (hflag _)) (walkChange_reportLive _ _)

theorem edits_stepUplink (u : Fin 32) (f : Uplink → Uplink) : Edits (stepUplink u f) := fun s => .kept (walkChange_watchStep _ s)

theorem walkChange_stepUplinks {us : UplinkSet} {f : Fin 32 → Uplink → Uplink} {s m : State} (h : SameTable s m) :
    WalkChange s (stepUplinks us f m) := .trans (.quiet h) (walkChange_watchStep _ m)

theorem tableChange_scanFrameJudged {bits : BitVec 68} {s t : State} (h : execScanFrameJudged bits s = .next t) :
    TableChange s t := by
  refine tableChange_unlessReset h ?_
  split
  · exact .refl s
  · split
    · exact .kept (walkChange_stepUplinks (.raiseIf .outside _ _))
    · exact .quiet (SameTable.outside.raiseIf _ _)

theorem edits_enableScan (period : BitVec 16) : Edits (enableScan period) := by
  intro s
  unfold enableScan
  split
  · exact .kept (walkChange_stepUplinks (.of_fields rfl rfl rfl))
  · exact .quiet (.of_fields rfl rfl rfl)

theorem edits_disableScan (period : BitVec 16) : Edits (disableScan period) := by
  intro s
  unfold disableScan
  split
  · exact .quiet (.of_fields rfl rfl rfl)
  · exact .kept (walkChange_stepUplinks (.raiseIf .outside _ _))

/-- The entry of a port to DOWN or FAULT completes retirements, and then may move the settled set. -/
theorem edits_portReset (i : PortId) (new : PortState) : Edits (portReset i new) := by
  intro s
  have hflags (p : Port) :
      WalkChange (completeAll (s.setPort i p)) (((completeAll (s.setPort i p)).raise flagPort).raiseIf (new == .fault) flagFault) :=
    .quiet (.raiseIf (.raise (.refl _) _) ..)
  simp only [portReset]
  refine .andThen ?_ (.quiet (.barrierCheck (.refl _)))
  split
  · exact .wrote (.quiet (.setPort (.refl s) ..)) .completed (.trans (hflags _) .resettled)
  · exact .wrote (.quiet (.setPort (.refl s) ..)) .completed (hflags _)

theorem edits_protocolError (i : PortId) : Edits (protocolError i) := by
  intro s
  unfold protocolError
  split
  · exact edits_portReset i .fault s
  · exact .refl s

theorem edits_serveResolve (i : PortId) : Edits (serveResolve i) := by
  intro s
  simp only [serveResolve]
  split
  · exact .refl s
  · exact .quiet (.setPort (.refl s) ..)

theorem edits_takeRetractDone (i : PortId) (e : RetractEntry) : Edits (takeRetractDone i e) := fun s =>
  ((edits_completeGroup e.group _).after (.quiet (.setPort (.refl s) ..))).andThen (.quiet (.barrierCheck (.refl _)))

/-- A matching Vector Ack changes its port, and with it the settled set when the port is UP. -/
theorem tableChange_acked (i : PortId) (v : DownVector) (s : State) : TableChange s (ackTaken i v s) := by
  have hport (p : Port) (c : Bool) : SameTable s ((s.setPort i p).raiseIf c flagPort) := .raiseIf (.setPort (.refl s) ..) ..
  simp only [ackTaken]
  split
  · exact .kept (.trans (.quiet (hport _ _)) .resettled)
  · exact .quiet (hport _ _)

/-! ### Every command -/

theorem tableChange_installGroup {stage : AccessStage} {s t : State} (h : execInstallGroup stage s = .next t) : TableChange s t := by
  refine tableChange_unlessReset h ?_
  split
  · exact edits_takeRequest (fun f => edits_presentGroupRequest (r := .install f) fun hg hms => ⟨hg, hms _ rfl⟩) s
  · split
    next f hiface => exact tableChange_access fun hready => tableChange_installAccess hready hiface
    next => exact .refl s

theorem tableChange_modifyGroup {stage : AccessStage} {s t : State} (h : execModifyGroup stage s = .next t) : TableChange s t := by
  refine tableChange_unlessReset h ?_
  split
  · exact edits_takeRequest (fun f => edits_presentGroupRequest (r := .modify f) fun hg hms => ⟨hg, hms _ rfl⟩) s
  · split
    next f hiface => exact tableChange_access fun hready => tableChange_modifyAccess hready hiface
    next => exact .refl s

theorem tableChange_retireGroup {stage : AccessStage} {s t : State} (h : execRetireGroup stage s = .next t) : TableChange s t := by
  refine tableChange_unlessReset h ?_
  split
  · exact edits_takeRequest (fun f => edits_presentGroupRequest fun hg _ => hg) s
  · split
    next g expected _ => exact tableChange_access fun hready => tableChange_retireAccess hready
    next => exact .refl s

theorem tableChange_readGroup {stage : AccessStage} {s t : State} (h : execReadGroup stage s = .next t) : TableChange s t := by
  refine tableChange_unlessReset h ?_
  split
  · exact edits_takeRequest (fun g => edits_presentGroupRequest fun hg _ => hg) s
  · split
    next => exact tableChange_access fun _ => .reply ..
    next => exact .refl s

theorem tableChange_rangeSurvey {rest : List Byte} {s t : State} (h : execRangeSurvey rest s = .next t) : TableChange s t := by
  refine tableChange_unlessReset h (edits_takeRequest (fun f s => tableChange_whenReady fun _ => ?_) s)
  split
  · exact .reply ..
  · exact .quiet ⟨rfl, rfl, fun _ hr => by cases hr⟩

theorem tableChange_rangeSurveyAccess {s t : State} (h : execRangeSurveyAccess s = .next t) : TableChange s t := by
  refine tableChange_unlessReset h ?_
  split
  next v _ => exact tableChange_access fun _ => edits_surveyAccess v _
  next => exact .refl s

theorem tableChange_uplinkJobVisit {s t : State} (h : execUplinkJobVisit s = .next t) : TableChange s t := by
  refine tableChange_unlessReset h ?_
  split
  next u g hjob => exact tableChange_access fun hready => tableChange_uplinkVisit hready hjob
  next => exact .refl s

theorem tableChange_closingAccess {s t : State} (h : execClosingAccess s = .next t) : TableChange s t := by
  refine tableChange_unlessReset h ?_
  split
  · exact tableChange_access fun _ => .kept .ended
  · exact .refl s

theorem tableChange_sweepVisit {s t : State} (h : execSweepVisit s = .next t) : TableChange s t := by
  refine tableChange_unlessReset h ?_
  split
  next first count next hjob => exact tableChange_access fun hready => tableChange_sweepJobVisit hready hjob
  next => exact .refl s

theorem sameTable_clearCounters (s : State) : SameTable s (clearCounters s) := by
  refine .of_fields ?_ ?_ ?_ <;> simp only [clearCounters]

theorem edits_takeBarrier (f : BarrierFields) : Edits (takeBarrier f) :=
  edits_quiet fun _ => .barrierCheck ⟨rfl, rfl, fun _ hr => by cases hr⟩

theorem tableChange_barrierTimerExpiry {s t : State} (h : execBarrierTimerExpiry s = .next t) : TableChange s t := by
  refine tableChange_unlessReset h ?_
  split
  · split
    · exact .refl s
    · exact .quiet (.barrierReply (.refl s) ..)
  · exact .refl s

theorem tableChange_scanFrameStart {s t : State} (h : execScanFrameStart s = .next t) : TableChange s t := by
  refine tableChange_unlessReset h ?_
  split
  · exact .refl s
  · exact .quiet (.of_fields rfl rfl rfl)

theorem tableChange_unknownRequestKind {kind : Byte} {rest : List Byte} {s t : State}
    (h : execUnknownRequestKind kind rest s = .next t) : TableChange s t := by
  refine tableChange_unlessReset h ?_
  split
  · exact edits_judgeFrame edits_formReply s
  · exact .refl s

theorem tableChange_requestDropped {frame : List Byte} {s t : State} (h : execRequestDropped frame s = .next t) :
    TableChange s t := by
  refine tableChange_unlessReset h ?_
  split
  · exact edits_judgeFrame TableChange.refl s
  · exact .refl s

theorem tableChange_laneLockGained {i : PortId} {s t : State} (h : execLaneLockGained i s = .next t) : TableChange s t := by
  have hlock : SameTable s (s.setPort i { s.port i with locked := true }) := .setPort (.refl s) ..
  cases h
  split
  · exact .quiet hlock
  · split
    · exact .quiet (hlock.enterSync i)
    · exact .quiet hlock

theorem tableChange_laneLockLost {i : PortId} {s t : State} (h : execLaneLockLost i s = .next t) : TableChange s t := by
  have hlock : SameTable s (s.setPort i { s.port i with locked := false }) := .setPort (.refl s) ..
  cases h
  split
  · exact .quiet hlock
  · split
    · exact .quiet hlock
    · exact (edits_portReset i .down _).after (.quiet hlock)

theorem tableChange_resolve {i : PortId} {index : BitVec 16} {s t : State} (h : execResolve i index s = .next t) :
    TableChange s t := by
  refine tableChange_unlessReset h ?_
  dsimp only
  split
  · exact .refl s
  · split
    · exact edits_protocolError i s
    · exact .quiet (.setPort (.refl s) ..)

theorem tableChange_vectorAck {i : PortId} {sequence : Byte} {s t : State} (h : execVectorAck i sequence s = .next t) :
    TableChange s t := by
  refine tableChange_unlessReset h ?_
  dsimp only
  split
  · exact .refl s
  · split
    · exact edits_protocolError i s
    · split
      · exact edits_protocolError i s
      · exact tableChange_acked i _ s

theorem tableChange_retractDone {i : PortId} {group : BitVec 16} {s t : State} (h : execRetractDone i group s = .next t) :
    TableChange s t := by
  refine tableChange_unlessReset h ?_
  dsimp only
  split
  · split
    · exact edits_protocolError i s
    · split
      · exact edits_takeRetractDone i _ s
      · exact edits_protocolError i s
  · exact edits_protocolError i s
  · exact .refl s
  · exact .refl s

/-- A message whose bytes are an error of its kind. -/
theorem tableChange_laneError {p : Prop} [Decidable p] {i : PortId} {s t : State}
    (h : unlessReset s (fun s => if p then protocolError i s else s) = .next t) : TableChange s t := by
  refine tableChange_unlessReset h ?_
  split
  · exact edits_protocolError i s
  · exact .refl s

theorem tableChange_ackTimerExpiry {i : PortId} {s t : State} (h : execAckTimerExpiry i s = .next t) : TableChange s t := by
  refine tableChange_unlessReset h ?_
  split
  · exact .refl s
  · exact edits_protocolError i s

theorem tableChange_answerLeaves {i : PortId} {s t : State} (h : execAnswerLeaves i s = .next t) : TableChange s t := by
  refine tableChange_unlessReset h ?_
  split
  · exact .quiet (.setPort (.refl s) ..)
  · exact .refl s

theorem tableChange_messageLeaves {i : PortId} {s t : State} (h : execMessageLeaves i s = .next t) : TableChange s t := by
  refine tableChange_unlessReset h ?_
  split
  · exact .refl s
  · exact .refl s
  · exact .quiet (.setPort (.refl s) ..)

/-- A requested full reset takes the table and the engine to their reset values. -/
theorem tableCleared_requestedReset (s : State) (sdo : List Byte) :
    TableCleared { requestedReset s with mgmt := { (requestedReset s).mgmt with sdo := sdo } } := by
  have hlocks : SameTable s.fullReset (requestedReset s) := .takeHeldLocks (.refl _)
  exact ⟨hlocks.table, hlocks.walk, takeHeldLocks_iface _⟩

theorem tableChange_readFrame {n : Nat} {s t : State} (h : execReadFrame n s = .next t) :
    TableChange s t ∨ Clears s (.readFrame n) t := by
  rcases unlessReset_next h with ⟨-, rfl⟩ | ⟨-, rfl⟩
  · exact .inl (.refl t)
  · unfold readFrame
    split
    · exact .inl (.refl s)
    · split
      · cases howed : s.mgmt.resetOwed
        · exact .inl (.quiet ⟨rfl, rfl, fun _ hr => by cases hr⟩)
        · exact .inr (.resetServed n howed (tableCleared_requestedReset _ _))
      · exact .inl (.quiet (.of_fields rfl rfl rfl))

theorem tableChange_initSweepEnd {s t : State} (h : execInitSweepEnd s = .next t) :
    TableChange s t ∨ Clears s .initSweepEnd t := by
  rcases unlessReset_next h with ⟨-, rfl⟩ | ⟨-, rfl⟩
  · exact .inl (.refl t)
  · split
    · exact .inl (.refl s)
    next hinit => exact .inr (.sweepEnded (by simpa using hinit))

/-- What a command does to the table: a change of `TableChange`, or its reset values. -/
theorem exec_tableChange (c : Instr) {s t : State} (h : exec c s = .next t) : TableChange s t ∨ Clears s c t := by
  cases c with
  | porstNAssert =>
    cases h
    split
    · exact .inl (.refl s)
    · exact .inr (.porstFell ⟨rfl, rfl, rfl⟩)
  | porstNRelease =>
    cases h
    split
    · exact .inl (.quiet (.takeHeldLocks (.of_fields rfl rfl rfl)))
    · exact .inl (.refl s)
  | initSweepEnd => exact tableChange_initSweepEnd h
  | readFrame n => exact tableChange_readFrame h
  | filteredLineLevelChange u level => exact .inl (tableChange_unlessReset h (edits_stepUplink u _ s))
  | scanFrameStart => exact .inl (tableChange_scanFrameStart h)
  | scanFrameJudged bits => exact .inl (tableChange_scanFrameJudged h)
  | qualifyTimerExpiry u => exact .inl (tableChange_unlessReset h (edits_stepUplink u _ s))
  | restoreTimerExpiry u => exact .inl (tableChange_unlessReset h (edits_stepUplink u _ s))
  | holdTimerExpiry u => exact .inl (tableChange_unlessReset h (edits_stepUplink u _ s))
  | windowTimerExpiry u => exact .inl (tableChange_unlessReset h (edits_stepUplink u _ s))
  | configureUplink rest => exact .inl (tableChange_takeRequest h fun f s => (edits_stepUplink f.1 _ s).thenReply _ _)
  | setAdminClear rest =>
    exact .inl (tableChange_takeOwnRequest h fun f s => (TableChange.kept (walkChange_stepUplinks (.refl s))).thenReply _ _)
  | setAdminSet rest =>
    exact .inl (tableChange_takeOwnRequest h fun f s => (TableChange.kept (walkChange_stepUplinks (.refl s))).thenReply _ _)
  | configureScanEnable rest => exact .inl (tableChange_takeOwnRequest h fun f s => (edits_enableScan f.2 s).thenReply _ _)
  | configureScanDisable rest => exact .inl (tableChange_takeOwnRequest h fun f s => (edits_disableScan f.2 s).thenReply _ _)
  | readUplink rest => exact .inl (tableChange_takeRequest h fun _ => edits_formReply)
  | installGroup stage => exact .inl (tableChange_installGroup h)
  | modifyGroup stage => exact .inl (tableChange_modifyGroup h)
  | retireGroup stage => exact .inl (tableChange_retireGroup h)
  | readGroup stage => exact .inl (tableChange_readGroup h)
  | rangeSurvey rest => exact .inl (tableChange_rangeSurvey h)
  | rangeSurveyAccess => exact .inl (tableChange_rangeSurveyAccess h)
  | rebalanceRange rest => exact .inl (tableChange_takeRequest h fun _ _ => tableChange_whenReady tableChange_rebalance)
  | uplinkJobVisit => exact .inl (tableChange_uplinkJobVisit h)
  | closingAccess => exact .inl (tableChange_closingAccess h)
  | sweepVisit => exact .inl (tableChange_sweepVisit h)
  | barrier rest => exact .inl (tableChange_takeRequest h fun f s => tableChange_whenReady fun _ => edits_takeBarrier f s)
  | barrierTimerExpiry => exact .inl (tableChange_barrierTimerExpiry h)
  | identify rest => exact .inl (tableChange_takeRequest h fun _ => edits_formReply)
  | readStatus rest => exact .inl (tableChange_takeRequest h fun _ => edits_formReply)
  | configurePorts rest => exact .inl (tableChange_takeRequest h fun _ => edits_quiet fun _ => .replied rfl rfl rfl)
  | readEvents rest => exact .inl (tableChange_takeRequest h fun _ => edits_quiet fun _ => .replied rfl rfl rfl)
  | setEventEnablesSet rest => exact .inl (tableChange_takeOwnRequest h fun _ => edits_quiet fun _ => .replied rfl rfl rfl)
  | setEventEnablesClear rest => exact .inl (tableChange_takeOwnRequest h fun _ => edits_quiet fun _ => .replied rfl rfl rfl)
  | readCounters rest => exact .inl (tableChange_takeOwnRequest h fun _ => edits_formReply)
  | readCountersClear rest =>
    exact .inl (tableChange_takeOwnRequest h fun _ => edits_quiet fun s => (sameTable_clearCounters s).formReply _ _)
  | fullResetRequest rest => exact .inl (tableChange_takeRequest h fun _ => edits_quiet fun _ => .replied rfl rfl rfl)
  | unknownRequestKind kind rest => exact .inl (tableChange_unknownRequestKind h)
  | requestDropped frame => exact .inl (tableChange_requestDropped h)
  | mrstNAssert => cases h; exact .inl (.quiet ⟨rfl, rfl, fun _ hr => by cases hr⟩)
  | mrstNRelease => cases h; exact .inl (.quiet (.of_fields rfl rfl rfl))
  | laneLockGained i => exact .inl (tableChange_laneLockGained h)
  | laneLockLost i => exact .inl (tableChange_laneLockLost h)
  | resolve i index => exact .inl (tableChange_resolve h)
  | resolveAccess i => exact .inl (tableChange_unlessReset h (tableChange_access fun _ => edits_serveResolve i _))
  | vectorAck i sequence => exact .inl (tableChange_vectorAck h)
  | retractDone i group => exact .inl (tableChange_retractDone h)
  | unknownKind i bytes => exact .inl (tableChange_laneError h)
  | ackTimerExpiry i => exact .inl (tableChange_ackTimerExpiry h)
  | answerLeaves i => exact .inl (tableChange_answerLeaves h)
  | messageLeaves i => exact .inl (tableChange_messageLeaves h)
  | wrongLengthMessage i bytes => exact .inl (tableChange_laneError h)

/-- A predicate that does not look at the queue is kept by every step when the changes of the table keep it. -/
theorem keptByEveryStep_of_tableChanges {Inv : State → Prop} (hqueue : ∀ s q, Inv s → Inv { s with pending := q })
    (hchange : ∀ s t, TableChange s t → Inv s → Inv t) (hclear : ∀ c s t, Clears s c t → Inv s → Inv t) :
    KeptByEveryStep Inv := by
  intro s t hs h
  rcases step_cases h with rfl | ⟨c, rest, hexec⟩
  · exact hs
  · rcases exec_tableChange c hexec with hmade | hcleared
    · exact hchange _ _ hmade (hqueue s rest hs)
    · exact hclear _ _ _ hcleared (hqueue s rest hs)

end Sys2Proof.Proofs
end

section
/-! PROOFS. What a placement can write: buckets that name members, or NONE in every bucket (R28, R54, R60). -/
namespace Sys2Proof.Proofs
open Sys2Proof.Machine Sys2Proof.Safety Sys2Proof.Claims

/-- Every bucket names one of n members, or is NONE. -/
def NamesBelow (n : Nat) (m : BucketMap) : Prop := ∀ p, some p ∈ m → p < n

/-! ### Freeing -/

@[simp] theorem activeSet_length (S : UplinkSet) (floor : Nat) (ms : List Member) : (activeSet S floor ms).length = ms.length := by
  simp [activeSet]

@[simp] theorem freeInactive_length (act : List Bool) (m : BucketMap) : (freeInactive act m).length = m.length := by
  simp [freeInactive]

@[simp] theorem freeExcess_length (qs : List Nat) (before m : BucketMap) : (freeExcess qs before m).length = m.length := by
  induction m generalizing before with
  | nil => rfl
  | cons b t ih => cases b <;> simp [freeExcess, ih]

/-- A bucket that is not freed names a member of the active set. -/
theorem namesBelow_freeInactive (act : List Bool) (m : BucketMap) : NamesBelow act.length (freeInactive act m) := by
  intro p hp
  simp only [freeInactive, List.mem_map, Option.filter_eq_some_iff] at hp
  obtain ⟨b, -, -, hact⟩ := hp
  by_contra hlt
  rw [List.getD_eq_default act false (Nat.le_of_not_lt hlt)] at hact
  exact Bool.noConfusion hact

/-- The second step frees buckets and gives none. -/
theorem mem_freeExcess {qs : List Nat} {before m : BucketMap} {p : Nat} (h : some p ∈ freeExcess qs before m) : some p ∈ m := by
  induction m generalizing before with
  | nil => exact h
  | cons b t ih =>
    cases b with
    | none => simpa using ih (by simpa [freeExcess] using h)
    | some q =>
      simp only [freeExcess, List.mem_cons] at h
      rcases h with h | h
      · split at h <;> simp_all
      · exact List.mem_cons_of_mem _ (ih h)

theorem freed_length (kind : Kind) (act : List Bool) (qs : List Nat) (m : BucketMap) : (freed kind act qs m).length = m.length := by
  cases kind <;> simp [freed]

theorem namesBelow_freed (kind : Kind) (act : List Bool) (qs : List Nat) (m : BucketMap) :
    NamesBelow act.length (freed kind act qs m) := by
  cases kind with
  | full => exact fun p hp => namesBelow_freeInactive act m p (mem_freeExcess hp)
  | keep => exact namesBelow_freeInactive act m

/-! ### Filling -/

/-- The largest deficit is one of the list's, or the best found before it. -/
theorem largestDeficit_below {ds : List (Option Int)} {i p : Nat} {d : Int} {best : Option (Nat × Int)}
    (h : largestDeficit ds i best = some (p, d)) : best = some (p, d) ∨ p < i + ds.length := by
  induction ds generalizing i best with
  | nil => exact .inl h
  | cons e t ih =>
    have hlater {b : Option (Nat × Int)} (hb : largestDeficit t (i + 1) b = some (p, d)) (hhead : b = best ∨ ∃ d', b = some (i, d')) :
        best = some (p, d) ∨ p < i + (e :: t).length := by
      rw [List.length_cons]
      rcases ih hb with hfound | hlt
      · rcases hhead with rfl | ⟨d', rfl⟩
        · exact .inl hfound
        · cases hfound; exact .inr (by omega)
      · exact .inr (by omega)
    cases e with
    | none => exact hlater h (.inl rfl)
    | some d₀ =>
      cases best with
      | none => exact hlater h (.inr ⟨d₀, rfl⟩)
      | some b =>
        refine hlater h ?_
        split
        · exact .inr ⟨d₀, rfl⟩
        · exact .inl rfl

/-- A list with a deficit has a largest one. -/
theorem largestDeficit_isSome {ds : List (Option Int)} {i : Nat} {best : Option (Nat × Int)}
    (h : best.isSome = true ∨ ∃ d, some d ∈ ds) : (largestDeficit ds i best).isSome = true := by
  induction ds generalizing i best with
  | nil => simpa [largestDeficit] using h
  | cons e t ih =>
    cases e with
    | none => exact ih (by simpa using h)
    | some d =>
      cases best with
      | none => exact ih (.inl rfl)
      | some b => exact ih (.inl (by split <;> rfl))

@[simp] theorem fillFree_length (ds : List (Option Int)) (m : BucketMap) : (fillFree ds m).length = m.length := by
  induction m generalizing ds with
  | nil => rfl
  | cons b t ih =>
    cases b with
    | some p => simp [fillFree, ih]
    | none => simp only [fillFree]; split <;> simp [ih]

/-- With some member active every bucket is filled, and by a member. -/
theorem fillFree_names {ds : List (Option Int)} {m : BucketMap} (hm : NamesBelow ds.length m) (hd : ∃ d, some d ∈ ds) :
    ∀ b ∈ fillFree ds m, ∃ p, p < ds.length ∧ b = some p := by
  induction m generalizing ds with
  | nil => simp [fillFree]
  | cons b t ih =>
    have htail : NamesBelow ds.length t := fun p hp => hm p (List.mem_cons_of_mem _ hp)
    cases b with
    | some p =>
      simp only [fillFree, List.forall_mem_cons]
      exact ⟨⟨p, hm p List.mem_cons_self, rfl⟩, ih htail hd⟩
    | none =>
      obtain ⟨⟨p, d⟩, hlargest⟩ := Option.isSome_iff_exists.mp (largestDeficit_isSome (i := 0) (best := none) (.inr hd))
      have hp : p < ds.length := by simpa using largestDeficit_below hlargest
      have hset : (ds.set p (some (d - 1))).length = ds.length := List.length_set
      simp only [fillFree, hlargest, List.forall_mem_cons]
      refine ⟨⟨p, hp, rfl⟩, ?_⟩
      rw [← hset]
      exact ih (hset.symm ▸ htail) ⟨d - 1, List.mem_set hp _⟩

/-! ### The placement -/

theorem place_length {kind : Kind} {ms : List Member} {floor : Nat} {start : BucketMap} {S : UplinkSet}
    (h : start.length = Config.buckets) : (place kind ms floor start S).length = Config.buckets := by
  simp only [place]
  split
  · rw [fillFree_length, freed_length, h]
  · simp [noneMap]

@[simp] theorem deficits_length (act : List Bool) (qs : List Nat) (m : BucketMap) : (deficits act qs m).length = act.length := by
  simp [deficits]

/-- An active member has a deficit. -/
theorem exists_deficit {act : List Bool} (h : act.any id = true) (qs : List Nat) (m : BucketMap) : ∃ d, some d ∈ deficits act qs m := by
  obtain ⟨a, ha, htrue⟩ := List.any_eq_true.mp h
  obtain ⟨i, hi, hget⟩ := List.mem_iff_getElem.mp ha
  have hlisted : (a, i) ∈ act.zipIdx := List.mem_iff_getElem.mpr ⟨i, by simpa using hi, by simp [hget]⟩
  exact ⟨_, List.mem_map.mpr ⟨(a, i), hlisted, if_pos htrue⟩⟩

/-- A placement names a member in every bucket, or is NONE throughout (R28). -/
theorem place_names (kind : Kind) (ms : List Member) (floor : Nat) (start : BucketMap) (S : UplinkSet) :
    place kind ms floor start S = noneMap ∨ ∀ b ∈ place kind ms floor start S, ∃ p, p < ms.length ∧ b = some p := by
  simp only [place]
  split
  next hany =>
    have hnames := namesBelow_freed kind (activeSet S floor ms) (quotas (activeWeights S floor ms)) start
    generalize freed kind (activeSet S floor ms) _ start = m at hnames ⊢
    have hfilled := fillFree_names (by rwa [deficits_length]) (exists_deficit hany (quotas (activeWeights S floor ms)) m)
    simp only [deficits_length, activeSet_length] at hfilled
    exact .inr hfilled
  · exact .inl rfl

/-- No member, no placement. -/
theorem place_nil (kind : Kind) (floor : Nat) (start : BucketMap) (S : UplinkSet) : place kind [] floor start S = noneMap := rfl

end Sys2Proof.Proofs
end

section
/-! PROOFS. Every step keeps every group record in order (O9). -/
namespace Sys2Proof.Proofs
open Sys2Proof.Machine Sys2Proof.Safety Sys2Proof.Claims

/-! ### One record -/

theorem groupOk_reset : GroupOk Group.reset := ⟨fun _ => ⟨rfl, rfl, rfl, rfl⟩, fun h => absurd rfl h⟩

theorem groupOk_completed (r : Group) : GroupOk r.completed := ⟨fun _ => ⟨rfl, rfl, rfl, rfl⟩, fun h => absurd rfl h⟩

theorem noneMap_length : noneMap.length = Config.buckets := List.length_replicate

theorem mapOk_length {r : Group} (h : MapOk r) : r.map.length = Config.buckets := by
  rcases h with h | ⟨h, -⟩
  · rw [h, noneMap_length]
  · exact h

/-- A record whose map is a placement from a whole map has its map in order (R28). -/
theorem mapOk_of_placed {r : Group} {kind : Kind} {floor : Nat} {start : BucketMap} {S : UplinkSet}
    (hstart : start.length = Config.buckets) (h : r.map = place kind r.members floor start S) : MapOk r := by
  rw [MapOk, h]
  exact (place_names kind r.members floor start S).imp_right fun hnames => ⟨place_length hstart, hnames⟩

/-- The floor as stored lies between 1 and the member limit (R27). -/
theorem clampFloor_bounds {carried : Byte} {ms : List Member} (h : validMembers ms = true) :
    1 ≤ clampFloor carried ms ∧ clampFloor carried ms ≤ Config.maxMembers := by
  have hlen : ms.length ≤ Config.maxMembers := by
    simp only [validMembers, Bool.and_eq_true, decide_eq_true_eq] at h
    exact h.1.2.1
  have hcount : ms.countP (fun m => m.role == .primary) ≤ ms.length := List.countP_le_length
  simp only [clampFloor]
  split
  · exact ⟨Nat.le_refl 1, by decide⟩
  · omega

theorem groupOk_of_active {r : Group} (hs : r.state = .active) (hms : validMembers r.members = true)
    (hfloor : 1 ≤ r.floor ∧ r.floor ≤ Config.maxMembers) (hgen : r.gen ≠ 0#32) (hmap : MapOk r) : GroupOk r :=
  ⟨fun hfree => absurd (hs.symm.trans hfree) (by decide), fun _ => ⟨hms, hfloor.1, hfloor.2, hgen, hmap⟩⟩

theorem groupOk_installed (f : InstallFields) (old : Group) (S : UplinkSet) (h : validMembers f.members = true) :
    GroupOk (installedGroup f old S) :=
  groupOk_of_active rfl h (clampFloor_bounds h) (nextGen_ne_zero _) (mapOk_of_placed noneMap_length rfl)

theorem rewriteMap_length (old new : List Member) (m : BucketMap) : (rewriteMap old new m).length = m.length := by
  simp [rewriteMap]

theorem groupOk_rewritten {f : ModifyFields} {r : Group} {S : UplinkSet} (h : validMembers f.members = true) (hs : r.state = .active)
    (hr : GroupOk r) : GroupOk (rewrittenGroup f r S) := by
  obtain ⟨-, -, -, -, hmap⟩ := hr.2 (by simp [hs])
  refine groupOk_of_active hs h (clampFloor_bounds h) (nextGen_ne_zero _) (mapOk_of_placed ?_ rfl)
  rw [rewriteMap_length, mapOk_length hmap]

theorem groupOk_retired {r : Group} (hs : r.state = .active) (hr : GroupOk r) : GroupOk (retiredGroup r) := by
  obtain ⟨hms, hlow, hhigh, -, hmap⟩ := hr.2 (by simp [hs])
  exact ⟨(by rintro ⟨⟩), fun _ => ⟨hms, hlow, hhigh, nextGen_ne_zero _, hmap⟩⟩

/-- A placement that differs from the stored map is of a group that is not FREE: a FREE group's is NONE throughout. -/
theorem not_free_of_placed {kind : Kind} {r : Group} {S : UplinkSet} (hr : GroupOk r)
    (hne : place kind r.members r.floor r.map S ≠ r.map) : r.state ≠ .free := by
  intro hfree
  obtain ⟨hms, -, -, hmap⟩ := hr.1 hfree
  rw [hms, hmap, place_nil] at hne
  exact hne rfl

theorem groupOk_placed {kind : Kind} {r : Group} {S : UplinkSet} (hr : GroupOk r) (hs : r.state ≠ .free) :
    GroupOk (placedGroup kind r S) := by
  obtain ⟨hms, hlow, hhigh, -, hmap⟩ := hr.2 hs
  exact ⟨fun hfree => absurd hfree hs,
    fun _ => ⟨hms, hlow, hhigh, nextGen_ne_zero _, mapOk_of_placed (mapOk_length hmap) rfl⟩⟩

/-! ### The records -/

/-- `GroupsOk` read by group number. -/
theorem groupsOk_iff (s : State) : GroupsOk s ↔ SparseWf Group.reset s.table.groups ∧
    ∀ g, GroupOk (s.group g) ∧ (s.group g ≠ Group.reset → g < Config.groups) := by
  refine ⟨fun ⟨hwf, h⟩ => ⟨hwf, fun g => ?_⟩, fun ⟨hwf, h⟩ => ⟨hwf, fun e he => ?_⟩⟩
  · by_cases hg : s.group g = Group.reset
    · exact ⟨hg ▸ groupOk_reset, fun hne => absurd hg hne⟩
    · obtain ⟨hlt, hok⟩ := h _ (s.mem_of_group g hg)
      exact ⟨hok, fun _ => hlt⟩
  · have hget := s.group_of_mem hwf he
    obtain ⟨hok, hlt⟩ := h e.1
    rw [hget] at hok hlt
    exact ⟨hlt (hwf.2 e he), hok⟩

theorem groupsOk_congr {s t : State} (h : t.table.groups = s.table.groups) (hs : GroupsOk s) : GroupsOk t := by
  rw [GroupsOk, h]; exact hs

theorem groupsOk_writeGroup {g : Nat} {r : Group} {s : State} (hs : GroupsOk s) (hg : g < Config.groups) (hr : GroupOk r) :
    GroupsOk (writeGroup g r s) := by
  rw [groupsOk_iff] at hs ⊢
  refine ⟨writeGroup_wf g r hs.1, fun h => ?_⟩
  rw [writeGroup_group]
  split
  next heq => exact ⟨hr, fun _ => heq ▸ hg⟩
  next => exact hs.2 h

/-- A group that is not FREE is one of the table's. -/
theorem lt_of_not_free {s : State} {g : Nat} (hs : GroupsOk s) (h : (s.group g).state ≠ .free) : g < Config.groups :=
  (((groupsOk_iff s).mp hs).2 g).2 fun hreset => h (by rw [hreset]; rfl)

theorem groupOk_group {s : State} (hs : GroupsOk s) (g : Nat) : GroupOk (s.group g) := (((groupsOk_iff s).mp hs).2 g).1

theorem groupsOk_completeAll {s : State} (hs : GroupsOk s) : GroupsOk (completeAll s) := by
  refine (groupsOk_iff _).mpr ⟨completeAll_wf hs.1, fun g => ?_⟩
  rw [completeAll_group hs.1]
  split
  next hdone =>
    have hretiring : (s.group g).state = .retiring := by simp_all
    exact ⟨groupOk_completed _, fun _ => lt_of_not_free hs (by simp [hretiring])⟩
  next => exact ((groupsOk_iff s).mp hs).2 g

/-! ### The request in progress -/

theorem requestOk_iff (s : State) : RequestOk s ↔ ∀ r, s.mgmt.iface = .serving (.group r) → RequestChecked r := by
  unfold RequestOk
  split
  next h => simp [h, RequestChecked]
  next h => simp [h, RequestChecked]
  next h => simp [h, RequestChecked]
  next h => simp [h, RequestChecked]
  next hinstall hmodify hretire hread =>
    refine iff_of_true trivial fun r hr => ?_
    cases r with
    | install f => exact absurd hr (hinstall f)
    | modify f => exact absurd hr (hmodify f)
    | retire g n => exact absurd hr (hretire g n)
    | read g => exact absurd hr (hread g)

theorem requestOk_of_sameTable {s t : State} (h : SameTable s t) (hs : RequestOk s) : RequestOk t :=
  (requestOk_iff t).mpr fun r hr => (requestOk_iff s).mp hs r (h.request r hr)

/-- Taking a job leaves the request in progress, or ends a Barrier. -/
theorem takeNextJob_request (s : State) (r : GroupRequest) (h : (takeNextJob s).mgmt.iface = .serving (.group r)) :
    s.mgmt.iface = .serving (.group r) := by
  have hcheck (m : State) : SameTable m (barrierCheck m) := .barrierCheck (.refl m)
  simpa using (hcheck _).request r h

theorem startIfIdle_request (s : State) (r : GroupRequest) (h : (startIfIdle s).mgmt.iface = .serving (.group r)) :
    s.mgmt.iface = .serving (.group r) := by
  rcases startIfIdle_cases s with ⟨-, -, heq⟩ | ⟨-, heq⟩ <;> rw [heq] at h
  · exact takeNextJob_request s r h
  · exact h

theorem WalkChange.keeps_requestOk {s t : State} (h : WalkChange s t) : RequestOk s → RequestOk t := by
  induction h with
  | quiet hsame => exact requestOk_of_sameTable hsame
  | presented r hr => exact fun _ => (requestOk_iff _).mpr fun q hq => by cases hq; exact hr
  | granted | visited | swept => exact id
  | ended =>
    rw [requestOk_iff, requestOk_iff]
    exact fun hs r hr => hs r (takeNextJob_request _ r hr)
  | queued | resettled =>
    rw [requestOk_iff, requestOk_iff]
    intro hs r hr
    have hbefore := startIfIdle_request _ r hr
    exact hs r hbefore
  | trans _ _ ih ih' => exact ih' ∘ ih

/-! ### Every step -/

/-- What a command writes of a group is in order, in a group of the table. -/
theorem RecordWrite.groupOk {s : State} {g : Nat} {r : Group} (h : RecordWrite s g r) (hs : GroupsInv s) :
    g < Config.groups ∧ GroupOk r := by
  obtain ⟨hgroups, hrequest⟩ := hs
  rw [requestOk_iff] at hrequest
  have hok := groupOk_group hgroups g
  cases h with
  | installed f _ hiface hfree =>
    obtain ⟨hg, hms⟩ := hrequest _ hiface
    exact ⟨hg, groupOk_installed f _ _ hms⟩
  | modified f _ hiface hactive =>
    obtain ⟨hg, hms⟩ := hrequest _ hiface
    exact ⟨hg, groupOk_rewritten hms hactive hok⟩
  | retired _ _ hactive => exact ⟨lt_of_not_free hgroups (by simp [hactive]), groupOk_retired hactive hok⟩
  | completed _ hretiring => exact ⟨lt_of_not_free hgroups (by simp [hretiring]), groupOk_completed _⟩
  | placed _ kind _ hne =>
    have hs := not_free_of_placed hok hne
    exact ⟨lt_of_not_free hgroups hs, groupOk_placed hok hs⟩

theorem groupsInv_writeGroup {g : Nat} {r : Group} {s : State} (h : RecordWrite s g r) (hs : GroupsInv s) :
    GroupsInv (writeGroup g r s) := by
  obtain ⟨hg, hr⟩ := h.groupOk hs
  refine ⟨groupsOk_writeGroup hs.1 hg hr, (requestOk_iff _).mpr ?_⟩
  rw [writeGroup_mgmt]
  exact (requestOk_iff s).mp hs.2

theorem groupsInv_of_sameTable {s t : State} (h : SameTable s t) (hs : GroupsInv s) : GroupsInv t :=
  ⟨groupsOk_congr (by rw [h.table]) hs.1, requestOk_of_sameTable h hs.2⟩

/-- The record that a retirement has just written is RETIRING, so its completion is a write of its own. -/
theorem completed_of_retired {s m : State} {g : Nat} (h : SameTable (writeGroup g (retiredGroup (s.group g)) s) m) :
    RecordWrite m g (m.group g).completed := by
  refine .completed g ?_
  rw [h.group, writeGroup_group, if_pos rfl]
  rfl

theorem RecordChange.keeps_groupsInv {s t : State} (h : RecordChange s t) (hs : GroupsInv s) : GroupsInv t := by
  cases h with
  | written hwrite => exact groupsInv_writeGroup hwrite hs
  | retiredAtOnce hready hactive hsame =>
    exact groupsInv_writeGroup (completed_of_retired hsame)
      (groupsInv_of_sameTable hsame (groupsInv_writeGroup (.retired _ hready hactive) hs))
  | completed =>
    refine ⟨groupsOk_completeAll hs.1, (requestOk_iff _).mpr ?_⟩
    rw [completeAll_iface]
    exact (requestOk_iff s).mp hs.2

theorem WalkChange.keeps_groupsInv {s t : State} (h : WalkChange s t) (hs : GroupsInv s) : GroupsInv t :=
  ⟨groupsOk_congr h.keeps.1 hs.1, h.keeps_requestOk hs.2⟩

theorem TableChange.keeps_groupsInv {s t : State} (h : TableChange s t) (hs : GroupsInv s) : GroupsInv t := by
  cases h with
  | kept hkept => exact hkept.keeps_groupsInv hs
  | wrote hbefore hwrite hafter => exact hafter.keeps_groupsInv (hwrite.keeps_groupsInv (hbefore.keeps_groupsInv hs))

theorem groupsOk_empty {s : State} (h : s.table.groups = []) : GroupsOk s := by
  rw [GroupsOk, h]
  exact ⟨sparseWf_nil _, fun _ he => absurd he List.not_mem_nil⟩

theorem TableCleared.groupsInv {t : State} (h : TableCleared t) : GroupsInv t :=
  ⟨groupsOk_empty (by rw [h.table]; rfl), (requestOk_iff t).mpr fun r hr => by simp [h.iface] at hr⟩

theorem Clears.keeps_groupsInv {c : Instr} {s t : State} (h : Clears s c t) (hs : GroupsInv s) : GroupsInv t := by
  cases h with
  | porstFell hcleared => exact hcleared.groupsInv
  | resetServed _ _ hcleared => exact hcleared.groupsInv
  | sweepEnded => exact ⟨groupsOk_empty rfl, hs.2⟩

/-- Settles O9: each record written is in order, and the request that names it has passed its checks. -/
theorem groupRecordsStayInOrder : Obligations.GroupRecordsStayInOrder :=
  keptByEveryStep_of_tableChanges (fun _ _ hs => hs) (fun _ _ h => h.keeps_groupsInv) fun _ _ _ h => h.keeps_groupsInv

end Sys2Proof.Proofs
end

section
/-! PROOFS. Every step keeps the reference chains exact, the walk queue within its limits and the cursor on its chain (O10). -/
namespace Sys2Proof.Proofs
open Sys2Proof.Machine Sys2Proof.Safety Sys2Proof.Claims

/-! ### The edit of one chain (R39) and of the cursor on it (R40) -/

/-- The link that follows another on a chain is a link of the chain, and in a chain without repeats another one. -/
theorem successor_mem {g h : Nat} {c : List Nat} (hnext : successor g c = some h) : h ∈ c ∧ (c.Nodup → h ≠ g) := by
  induction c with
  | nil => cases hnext
  | cons x t ih =>
    simp only [successor] at hnext
    split at hnext
    next hx =>
      have hmem := List.mem_of_mem_head? hnext
      refine ⟨List.mem_cons_of_mem _ hmem, fun hnodup heq => ?_⟩
      exact (List.nodup_cons.mp hnodup).1 (hx ▸ heq ▸ hmem)
    next =>
      obtain ⟨hmem, hne⟩ := ih hnext
      exact ⟨List.mem_cons_of_mem _ hmem, fun hnodup => hne (List.nodup_cons.mp hnodup).2⟩

theorem editChain_unlink (g : Nat) (c : List Nat) : editChain g true false c = c.erase g := rfl

theorem editChain_append {g : Nat} {c : List Nat} (h : g ∉ c) : editChain g false true c = c ++ [g] := by simp [editChain, h]

/-- What the edited chain holds: the edited group if it relates now, every other group as before. -/
theorem mem_editChain {g : Nat} {was is : Bool} {c : List Nat} (hnodup : c.Nodup) (hwas : g ∈ c ↔ was = true) (h : Nat) :
    h ∈ editChain g was is c ↔ if h = g then is = true else h ∈ c := by
  cases was <;> cases is
  · rw [editChain_same]; split <;> simp_all
  · rw [editChain_append (by simpa using hwas)]; split <;> simp_all
  · rw [editChain_unlink, hnodup.mem_erase_iff]; split <;> simp_all
  · rw [editChain_same]; split <;> simp_all

theorem nodup_editChain {g : Nat} {was is : Bool} {c : List Nat} (hnodup : c.Nodup) : (editChain g was is c).Nodup := by
  unfold editChain
  split
  · exact hnodup.erase g
  · split
    next h => exact List.nodup_append.mpr ⟨hnodup, List.nodup_singleton g, by rintro a ha b hb rfl; simp_all⟩
    · exact hnodup

/-- A cursor on its chain stays on it when the chain is edited. -/
theorem editCursor_mem {g h : Nat} {was is : Bool} {c : List Nat} {cursor : Option Nat} (hnodup : c.Nodup)
    (hcursor : ∀ x ∈ cursor, x ∈ c) (hh : editCursor g was is c cursor = some h) : h ∈ editChain g was is c := by
  unfold editCursor at hh
  unfold editChain
  split at hh
  next hunlink =>
    rw [if_pos hunlink, hnodup.mem_erase_iff]
    split at hh
    · obtain ⟨hmem, hne⟩ := successor_mem hh
      exact ⟨hne hnodup, hmem⟩
    next hne => exact ⟨fun heq => hne (heq ▸ hh), hcursor h hh⟩
  next hkept =>
    rw [if_neg hkept]
    split at hh
    next happend => cases hh; rw [if_pos (by simp_all)]; simp
    next =>
      split
      · exact List.mem_append_left _ (hcursor h hh)
      · exact hcursor h hh

/-! ### The chains -/

theorem getLsbD_linksOf (r : Group) (i : Nat) :
    (linksOf r).getLsbD i = true ↔ r.state = .active ∧ (related r.members).getLsbD i = true := by
  unfold linksOf; split <;> simp_all

/-- `ChainsOk` read by group number: no chain holds a group twice, and each holds the groups whose links it has. -/
def ChainsExact (s : State) : Prop :=
  ∀ u : Fin 32, s.table.chains[u].Nodup ∧ ∀ g, g ∈ s.table.chains[u] ↔ (linksOf (s.group g)).getLsbD u.val = true

theorem chainsOk_iff {s : State} (hwf : SparseWf Group.reset s.table.groups) : ChainsOk s ↔ ChainsExact s := by
  refine forall_congr' fun u => and_congr_right fun _ => ?_
  simp only [getLsbD_linksOf]
  constructor
  · rintro ⟨hon, hall⟩ g
    refine ⟨hon g, fun ⟨hactive, hrelated⟩ => ?_⟩
    exact hall _ (s.mem_of_group g fun h => by simp [h, Group.reset] at hactive) hactive hrelated
  · intro h
    refine ⟨fun g => (h g).mp, fun e he hactive hrelated => (h e.1).mpr ?_⟩
    rw [s.group_of_mem hwf he]
    exact ⟨hactive, hrelated⟩

theorem chainsExact_congr {s t : State} (hchains : t.table.chains = s.table.chains)
    (hlinks : ∀ g, linksOf (t.group g) = linksOf (s.group g)) (hs : ChainsExact s) : ChainsExact t := by
  intro u
  simp only [hchains, hlinks]
  exact hs u

/-- The write of a record keeps the chains exact: its links follow it. -/
theorem chainsExact_writeGroup {g : Nat} {r : Group} {s : State} (hs : ChainsExact s) : ChainsExact (writeGroup g r s) := by
  intro u
  obtain ⟨hnodup, hmem⟩ := hs u
  rw [writeGroup_chain]
  refine ⟨nodup_editChain hnodup, fun h => ?_⟩
  rw [mem_editChain hnodup (hmem g), writeGroup_group]
  split
  · exact Iff.rfl
  · exact hmem h

theorem chainsExact_completeAll {s : State} (hwf : SparseWf Group.reset s.table.groups) (hs : ChainsExact s) :
    ChainsExact (completeAll s) := by
  refine chainsExact_congr (completeAll_chains s) (fun g => ?_) hs
  rw [completeAll_group hwf]
  split
  · exact linksOf_completed (by simp_all)
  · rfl

/-! ### The walk queue and the job in progress -/

/-- What the waiting jobs keep (R68, R70). -/
def WaitingOk (q : List WaitingJob) : Prop :=
  (q.filter fun j => !j.isSweep).Nodup ∧ sweepsWaiting q ≤ Config.maxSweeps ∧ q.all rangeOk = true

/-- What the job in progress keeps with the chains (R40, R67, R70). -/
def JobOk (chains : Vector (List Nat) 32) : Option RunningJob → Prop
  | some (.uplink u cursor) => ∀ g ∈ cursor, g ∈ chains[u]
  | some (.sweep first count next) => first ≤ next ∧ next < first + count ∧ first + count ≤ Config.groups
  | none => True

/-- What the engine keeps: an IDLE engine has no job waiting (R71). -/
structure WalkOk (chains : Vector (List Nat) 32) (w : Walk) : Prop where
  waiting : WaitingOk w.queue
  idle : w.job = none → w.queue = []
  job : JobOk chains w.job

theorem cursorOk_iff (s : State) : CursorOk s ↔ JobOk s.table.chains s.walk.job := by
  unfold CursorOk JobOk
  rcases s.walk.job with _ | ⟨u, _ | g⟩ | _ <;> simp

theorem walkOk_iff (s : State) : WalkOk s.table.chains s.walk ↔ QueueOk s ∧ CursorOk s := by
  rw [cursorOk_iff]
  exact ⟨fun ⟨⟨hnodup, hsweeps, hrange⟩, hidle, hjob⟩ => ⟨⟨hnodup, hsweeps, hrange, hidle⟩, hjob⟩,
    fun ⟨⟨hnodup, hsweeps, hrange, hidle⟩, hjob⟩ => ⟨⟨hnodup, hsweeps, hrange⟩, hidle, hjob⟩⟩

theorem walkOk_reset (chains : Vector (List Nat) 32) : WalkOk chains Walk.reset :=
  ⟨⟨List.nodup_nil, Nat.zero_le _, rfl⟩, fun _ => rfl, trivial⟩

theorem waitingOk_suffix {p q : List WaitingJob} (h : p <:+ q) (hq : WaitingOk q) : WaitingOk p := by
  obtain ⟨hnodup, hsweeps, hrange⟩ := hq
  refine ⟨hnodup.sublist (h.sublist.filter _), (h.sublist.countP_le).trans hsweeps, ?_⟩
  rw [List.all_eq_true] at hrange ⊢
  exact fun j hj => hrange j (h.subset hj)

/-- A sweep job of a range within the table is taken in while fewer than 8 wait. -/
theorem waitingOk_append_sweep {q : List WaitingJob} {first count : Nat} (hq : WaitingOk q) (hrange : rangeRefused first count = false)
    (hroom : sweepsWaiting q < Config.maxSweeps) : WaitingOk (q ++ [.sweep first count]) := by
  obtain ⟨hnodup, -, hall⟩ := hq
  refine ⟨by simpa [WaitingJob.isSweep] using hnodup, ?_, ?_⟩
  · simpa [sweepsWaiting, WaitingJob.isSweep] using hroom
  · simp only [rangeRefused, Bool.or_eq_false_iff, beq_eq_false_iff_ne, decide_eq_false_iff_not] at hrange
    simp only [List.all_append, hall, List.all_cons, rangeOk, List.all_nil, Bool.and_true, Bool.true_and, decide_eq_true_eq]
    omega

/-- The jobs appended for the uplinks that moved (R69). -/
theorem mem_queueJobs {moved : UplinkSet} {q : List WaitingJob} {j : WaitingJob} (h : j ∈ queueJobs moved q) :
    j ∈ q ∨ ∃ u, j = .uplink u ∧ j ∉ q := by
  simp only [queueJobs, List.mem_append, List.mem_map, List.mem_filter, Bool.and_eq_true, Bool.not_eq_true',
    List.contains_eq_mem, decide_eq_false_iff_not] at h
  rcases h with h | ⟨u, ⟨-, -, hnew⟩, rfl⟩
  · exact .inl h
  · exact .inr ⟨u, rfl, hnew⟩

theorem waitingOk_queueJobs {moved : UplinkSet} {q : List WaitingJob} (hq : WaitingOk q) : WaitingOk (queueJobs moved q) := by
  obtain ⟨hnodup, hsweeps, hrange⟩ := hq
  have hnew : ((allUplinks.filter fun u => moved.getLsbD u.val && !q.contains (.uplink u)).map WaitingJob.uplink).Nodup :=
    ((List.nodup_finRange 32).filter _).map fun _ _ h => WaitingJob.uplink.inj h
  refine ⟨?_, ?_, ?_⟩
  · rw [queueJobs, List.filter_append]
    refine List.nodup_append.mpr ⟨hnodup, hnew.filter _, fun a ha b hb heq => ?_⟩
    have hold := (List.mem_filter.mp ha).1
    obtain ⟨u, hu, rfl⟩ := List.mem_map.mp (List.mem_filter.mp hb).1
    simp_all
  · have hnone : ((allUplinks.filter fun u => moved.getLsbD u.val && !q.contains (.uplink u)).map WaitingJob.uplink).countP
        WaitingJob.isSweep = 0 := List.countP_eq_zero.mpr fun j hj => by
      obtain ⟨u, -, rfl⟩ := List.mem_map.mp hj
      simp [WaitingJob.isSweep]
    rw [sweepsWaiting, queueJobs, List.countP_append, hnone]
    exact hsweeps
  · rw [List.all_eq_true] at hrange ⊢
    intro j hj
    rcases mem_queueJobs hj with hold | ⟨u, rfl, -⟩
    · exact hrange j hold
    · rfl

/-- The engine after it takes a job: at the head of its chain, or at the first group of its range. -/
theorem walkOk_takeNextJob {s : State} (h : WaitingOk s.walk.queue) : WalkOk s.table.chains (takeNextJob s).walk := by
  obtain ⟨hjob, hleft⟩ := startFrom_cases s.table.chains s.walk.queue
  rw [takeNextJob_walk]
  generalize startFrom s.table.chains s.walk.queue = r at hjob hleft
  obtain ⟨job, queue⟩ := r
  refine ⟨waitingOk_suffix hleft h, fun hidle => ?_, ?_⟩
  · rcases hjob with ⟨u, g, hr, -⟩ | ⟨f, c, hr, -⟩ | ⟨-, hr⟩
    · exact absurd (hr.symm.trans hidle) (by simp)
    · exact absurd (hr.symm.trans hidle) (by simp)
    · exact hr
  · rcases hjob with ⟨u, g, rfl, hhead⟩ | ⟨f, c, rfl, hmem⟩ | ⟨rfl, -⟩
    · rintro x hx
      cases hx
      exact List.mem_of_mem_head? hhead
    · have hrange := List.all_eq_true.mp h.2.2 _ hmem
      simp only [rangeOk, decide_eq_true_eq] at hrange
      exact ⟨Nat.le_refl f, by omega, hrange.2⟩
    · trivial

theorem walkOk_startIfIdle {s : State} (hwaiting : WaitingOk s.walk.queue) (hjob : JobOk s.table.chains s.walk.job) :
    WalkOk s.table.chains (startIfIdle s).walk := by
  rcases startIfIdle_cases s with ⟨-, -, h⟩ | ⟨hkept, h⟩ <;> rw [h]
  · exact walkOk_takeNextJob hwaiting
  · exact ⟨hwaiting, fun hidle => hkept.resolve_left fun hne => hne hidle, hjob⟩

theorem walkOk_resettle {s : State} (hs : WalkOk s.table.chains s.walk) : WalkOk s.table.chains (resettle s).walk := by
  unfold resettle
  exact walkOk_startIfIdle (s := { s with
      settled := settledOf s.live s.lp0 s.lp1
      walk := { s.walk with queue := queueJobs (settledOf s.live s.lp0 s.lp1 ^^^ s.settled) s.walk.queue } })
    (waitingOk_queueJobs hs.waiting) hs.job

theorem WalkChange.keeps_walkOk {s t : State} (h : WalkChange s t) : WalkOk s.table.chains s.walk → WalkOk t.table.chains t.walk := by
  induction h with
  | quiet hsame => rw [hsame.table, hsame.walk]; exact id
  | presented | granted => exact id
  | visited _ hnext =>
    intro hs
    exact ⟨hs.waiting, (by rintro ⟨⟩), fun x hx => by cases hx; exact (successor_mem hnext).1⟩
  | swept hjob hmore =>
    intro hs
    have hrange := hs.job
    rw [hjob] at hrange
    obtain ⟨hlow, -, hhigh⟩ := hrange
    exact ⟨hs.waiting, (by rintro ⟨⟩), by omega, hmore, hhigh⟩
  | ended =>
    intro hs
    rw [endJob, takeNextJob_table]
    exact walkOk_takeNextJob hs.waiting
  | queued first count _ hrange hroom =>
    intro hs
    rw [startIfIdle_table]
    exact walkOk_startIfIdle (waitingOk_append_sweep hs.waiting hrange hroom) hs.job
  | resettled =>
    intro hs
    rw [resettle_table]
    exact walkOk_resettle hs
  | trans _ _ ih ih' => exact ih' ∘ ih

/-! ### Writes and the job in progress -/

theorem editJob_eq_none {g : Nat} {old new : UplinkSet} {chains : Vector (List Nat) 32} {j : Option RunningJob} :
    editJob g old new chains j = none ↔ j = none := by
  rcases j with _ | ⟨u, cursor⟩ | _ <;> simp [editJob]

/-- The write of a record keeps the cursor on its chain (R40). -/
theorem walkOk_writeGroup {g : Nat} {r : Group} {s : State} (hchains : ChainsExact s) (hs : WalkOk s.table.chains s.walk) :
    WalkOk (writeGroup g r s).table.chains (writeGroup g r s).walk := by
  obtain ⟨hwaiting, hidle, hjob⟩ := hs
  rw [writeGroup_walk]
  refine ⟨hwaiting, fun hnone => hidle (editJob_eq_none.mp hnone), ?_⟩
  rcases hj : s.walk.job with _ | ⟨u, cursor⟩ | ⟨first, count, next⟩ <;> rw [hj] at hjob <;> simp only [editJob, JobOk] at hjob ⊢
  · intro h hh
    rw [writeGroup_chain]
    exact editCursor_mem (hchains u).1 hjob hh
  · exact hjob

/-! ### During INIT -/

theorem walk_eq_reset {w : Walk} (hjob : w.job = none) (hqueue : w.queue = []) : w = Walk.reset := by
  cases w; simp_all [Walk.reset]

/-- With every chain empty the engine takes no uplink job: each ends at once (R72). -/
theorem startFrom_empty {chains : Vector (List Nat) 32} {q : List WaitingJob} (hchains : ∀ u : Fin 32, chains[u] = [])
    (hq : ∀ j ∈ q, ∃ u, j = .uplink u) : startFrom chains q = (none, []) := by
  induction q with
  | nil => rfl
  | cons j q ih =>
    obtain ⟨u, rfl⟩ := hq j List.mem_cons_self
    simp only [startFrom, hchains u, List.head?_nil]
    exact ih fun j hj => hq j (List.mem_cons_of_mem _ hj)

theorem startIfIdle_walk_empty {s : State} (hchains : ∀ u : Fin 32, s.table.chains[u] = []) (hidle : s.walk.job = none)
    (hqueue : ∀ j ∈ s.walk.queue, ∃ u, j = .uplink u) : (startIfIdle s).walk = Walk.reset := by
  rcases startIfIdle_cases s with ⟨-, -, h⟩ | ⟨hkept, h⟩ <;> rw [h]
  · rw [takeNextJob_walk, startFrom_empty hchains hqueue]
    rfl
  · exact walk_eq_reset hidle (hkept.resolve_left fun hne => hne hidle)

theorem getElem_tableReset_chains (u : Fin 32) : Table.reset.chains[u] = [] := by simp [Table.reset]

/-- A recomputation of the settled set with every chain empty leaves an IDLE engine with no job (R72, R85). -/
theorem resettle_walk_empty {s : State} (htable : s.table = Table.reset) (hwalk : s.walk = Walk.reset) :
    (resettle s).walk = Walk.reset := by
  refine startIfIdle_walk_empty (htable ▸ getElem_tableReset_chains) (by rw [hwalk]; rfl) fun j hj => ?_
  rw [hwalk] at hj
  rcases mem_queueJobs hj with hj | ⟨u, rfl, -⟩
  · cases hj
  · exact ⟨u, rfl⟩

theorem WalkChange.keeps_initEmpty {s t : State} (h : WalkChange s t) : InitEmpty s → InitEmpty t := by
  induction h with
  | quiet hsame =>
    intro hs hinit
    rw [hsame.table] at hinit ⊢
    rw [hsame.walk]
    exact hs hinit
  | presented => exact id
  | granted q hready => exact fun _ hinit => absurd (hready.symm.trans hinit) (by decide)
  | visited hjob | swept hjob =>
    intro hs hinit
    rw [(hs hinit).2] at hjob
    cases hjob
  | ended =>
    intro hs hinit
    rw [endJob, takeNextJob_table] at hinit
    obtain ⟨htable, hwalk⟩ := hs hinit
    refine ⟨by rw [endJob, takeNextJob_table]; exact htable, ?_⟩
    rw [endJob, takeNextJob_walk, hwalk]
    rfl
  | queued _ _ hready =>
    intro _ hinit
    rw [startIfIdle_table] at hinit
    exact absurd (hready.symm.trans hinit) (by decide)
  | resettled =>
    intro hs hinit
    rw [resettle_table] at hinit ⊢
    obtain ⟨htable, hwalk⟩ := hs hinit
    exact ⟨htable, resettle_walk_empty htable hwalk⟩
  | trans _ _ ih ih' => exact ih' ∘ ih

/-- No record is written during INIT (R47): no access is granted, and no group of the empty table is RETIRING. -/
theorem RecordWrite.ready {s : State} {g : Nat} {r : Group} (h : RecordWrite s g r) (hs : InitEmpty s) : s.table.ready = true := by
  cases h with
  | installed _ hready | modified _ hready | retired _ hready | placed _ _ hready => exact hready
  | completed _ hretiring =>
    by_contra hinit
    have htable := (hs (by simpa using hinit)).1
    simp only [State.group, htable] at hretiring
    cases hretiring

theorem initEmpty_of_ready {s : State} (h : s.table.ready = true) : InitEmpty s := fun hinit => absurd (h.symm.trans hinit) (by decide)

theorem initEmpty_writeGroup {g : Nat} {r : Group} {s : State} (h : RecordWrite s g r) (hs : InitEmpty s) :
    InitEmpty (writeGroup g r s) := initEmpty_of_ready (by rw [writeGroup_ready]; exact h.ready hs)

theorem initEmpty_completeAll {s : State} (hs : InitEmpty s) : InitEmpty (completeAll s) := by
  intro hinit
  rw [completeAll_ready] at hinit
  obtain ⟨htable, hwalk⟩ := hs hinit
  refine ⟨?_, by rw [completeAll_walk]; exact hwalk⟩
  simp only [completeAll, State.raiseIf_table, htable]
  rfl

/-! ### Every step -/

/-- `WalkInv` with its conditions read by group number and by the engine's record. -/
structure WalkOrder (s : State) : Prop where
  init : InitEmpty s
  wf : SparseWf Group.reset s.table.groups
  chains : ChainsExact s
  walk : WalkOk s.table.chains s.walk

theorem walkInv_iff (s : State) : WalkInv s ↔ WalkOrder s := by
  constructor
  · rintro ⟨hinit, hwf, hchains, hwalk⟩
    exact ⟨hinit, hwf, (chainsOk_iff hwf).mp hchains, (walkOk_iff s).mpr hwalk⟩
  · rintro ⟨hinit, hwf, hchains, hwalk⟩
    exact ⟨hinit, hwf, (chainsOk_iff hwf).mpr hchains, (walkOk_iff s).mp hwalk⟩

theorem WalkChange.keeps_walkOrder {s t : State} (h : WalkChange s t) (hs : WalkOrder s) : WalkOrder t := by
  obtain ⟨hgroups, hchains, -, -⟩ := h.keeps
  exact ⟨h.keeps_initEmpty hs.init, hgroups ▸ hs.wf, chainsExact_congr hchains (fun g => by rw [h.group]) hs.chains,
    h.keeps_walkOk hs.walk⟩

theorem walkOrder_writeGroup {g : Nat} {r : Group} {s : State} (h : RecordWrite s g r) (hs : WalkOrder s) :
    WalkOrder (writeGroup g r s) :=
  ⟨initEmpty_writeGroup h hs.init, writeGroup_wf g r hs.wf, chainsExact_writeGroup hs.chains, walkOk_writeGroup hs.chains hs.walk⟩

theorem RecordChange.keeps_walkOrder {s t : State} (h : RecordChange s t) (hs : WalkOrder s) : WalkOrder t := by
  cases h with
  | written hwrite => exact walkOrder_writeGroup hwrite hs
  | retiredAtOnce hready hactive hsame =>
    have hretired := walkOrder_writeGroup (.retired _ hready hactive) hs
    exact walkOrder_writeGroup (completed_of_retired hsame) (WalkChange.keeps_walkOrder (.quiet hsame) hretired)
  | completed =>
    exact ⟨initEmpty_completeAll hs.init, completeAll_wf hs.wf, chainsExact_completeAll hs.wf hs.chains,
      by rw [completeAll_chains, completeAll_walk]; exact hs.walk⟩

theorem TableChange.keeps_walkOrder {s t : State} (h : TableChange s t) (hs : WalkOrder s) : WalkOrder t := by
  cases h with
  | kept hkept => exact hkept.keeps_walkOrder hs
  | wrote hbefore hwrite hafter => exact hafter.keeps_walkOrder (hwrite.keeps_walkOrder (hbefore.keeps_walkOrder hs))

/-- A table with no record has every chain empty. -/
theorem chainsExact_empty {s : State} (hgroups : s.table.groups = []) (hchains : s.table.chains = Table.reset.chains) :
    ChainsExact s := by
  intro u
  have hgroup (g : Nat) : s.group g = Group.reset := by simp only [State.group, hgroups]; rfl
  simp only [hchains, getElem_tableReset_chains, hgroup]
  exact ⟨List.nodup_nil, fun g => by simp [linksOf, Group.reset]⟩

theorem TableCleared.walkOrder {t : State} (h : TableCleared t) : WalkOrder t := by
  obtain ⟨htable, hwalk, -⟩ := h
  have hgroups : t.table.groups = [] := by rw [htable]; rfl
  exact ⟨fun _ => ⟨htable, hwalk⟩, by rw [hgroups]; exact sparseWf_nil _, chainsExact_empty hgroups (by rw [htable]),
    by rw [hwalk]; exact walkOk_reset _⟩

theorem Clears.keeps_walkOrder {c : Instr} {s t : State} (h : Clears s c t) (hs : WalkOrder s) : WalkOrder t := by
  cases h with
  | porstFell hcleared => exact hcleared.walkOrder
  | resetServed _ _ hcleared => exact hcleared.walkOrder
  | sweepEnded hinit =>
    obtain ⟨-, hwalk⟩ := hs.init hinit
    exact ⟨initEmpty_of_ready rfl, sparseWf_nil _, chainsExact_empty rfl rfl, by
      rw [State.raise_walk, hwalk]; exact walkOk_reset _⟩

/-- Settles O10: a write's links follow its record, and the engine's own changes keep its queue and cursor. -/
theorem chainsAndWalkStayInOrder : Obligations.ChainsAndWalkStayInOrder := by
  have hkept : KeptByEveryStep WalkOrder := keptByEveryStep_of_tableChanges
    (fun _ _ ⟨hinit, hwf, hchains, hwalk⟩ => ⟨hinit, hwf, hchains, hwalk⟩) (fun _ _ h => h.keeps_walkOrder)
    fun _ _ _ h => h.keeps_walkOrder
  intro s t hs h
  rw [walkInv_iff] at hs ⊢
  exact hkept s t hs h

end Sys2Proof.Proofs
end

section
/-! PROOFS. Every step keeps the links in the pool and on the chains together at the pool's size (O11). -/
namespace Sys2Proof.Proofs
open Sys2Proof.Machine Sys2Proof.Safety Sys2Proof.Claims

/-! ### The links of one group -/

/-- The uplinks of a member list and of its terms, one entry for each naming (R38). -/
def namedUplinks (ms : List Member) : List (Fin 32) := ms.flatMap fun m => m.uplink :: m.terms.map (·.watched)

theorem mem_namedUplinks (ms : List Member) (u : Fin 32) : u ∈ namedUplinks ms ↔ (related ms).getLsbD u.val = true := by
  simp only [namedUplinks, List.mem_flatMap, List.mem_cons, List.mem_map, getLsbD_related, List.any_eq_true, Bool.or_eq_true,
    beq_iff_eq, eq_comm (a := u)]

/-- At most 8 members of at most 2 terms each name at most 24 uplinks (R140). -/
theorem namedUplinks_length {ms : List Member} (h : validMembers ms = true) : (namedUplinks ms).length ≤ 24 := by
  simp only [validMembers, Bool.and_eq_true, decide_eq_true_eq, List.all_eq_true] at h
  obtain ⟨⟨-, hlen, -⟩, hterms⟩ := h
  have hthree : ∀ n ∈ ms.map fun m => (m.uplink :: m.terms.map (·.watched)).length, n ≤ 3 := by
    intro n hn
    obtain ⟨m, hm, rfl⟩ := List.mem_map.mp hn
    have htwo : m.terms.length ≤ 2 := (hterms m hm).1
    simp only [List.length_cons, List.length_map]
    omega
  have hsum := List.sum_le_card_nsmul _ 3 hthree
  have height : ms.length ≤ 8 := hlen
  rw [List.length_map, smul_eq_mul] at hsum
  rw [namedUplinks, List.length_flatMap]
  omega

/-- The uplinks on whose chains a group stands. -/
def linkSet (r : Group) : Finset (Fin 32) := Finset.univ.filter fun u : Fin 32 => (linksOf r).getLsbD u.val = true

theorem linkSet_card {r : Group} (h : GroupOk r) : (linkSet r).card ≤ 24 := by
  by_cases hs : r.state = .active
  · obtain ⟨hms, -⟩ := h.2 (by simp [hs])
    have hsub : linkSet r ⊆ (namedUplinks r.members).toFinset := by
      intro u hu
      simp only [linkSet, Finset.mem_filter, Finset.mem_univ, true_and, linksOf_active hs] at hu
      exact List.mem_toFinset.mpr ((mem_namedUplinks _ _).mpr hu)
    calc (linkSet r).card ≤ (namedUplinks r.members).toFinset.card := Finset.card_le_card hsub
      _ ≤ (namedUplinks r.members).length := List.toFinset_card_le _
      _ ≤ 24 := namedUplinks_length hms
  · simp [linkSet, linksOf_inactive hs]

/-! ### The links in use -/

/-- The groups on the chain of u are those of the table whose links hold u. -/
theorem chain_length {s : State} (hgroups : GroupsOk s) (hchains : ChainsExact s) (u : Fin 32) :
    s.table.chains[u].length = ((Finset.range Config.groups).filter fun g => u ∈ linkSet (s.group g)).card := by
  obtain ⟨hnodup, hmem⟩ := hchains u
  rw [← List.toFinset_card_of_nodup hnodup]
  refine congrArg Finset.card (Finset.ext fun g => ?_)
  simp only [List.mem_toFinset, Finset.mem_filter, Finset.mem_range, linkSet, Finset.mem_univ, true_and, hmem]
  refine ⟨fun h => ⟨lt_of_not_free hgroups ?_, h⟩, And.right⟩
  simp [((getLsbD_linksOf _ _).mp h).1]

/-- 4096 groups of at most 24 links each use no more than the pool holds (R41): the links are counted by group in place of by chain. -/
theorem linksIn_le_pool {s : State} (hgroups : GroupsOk s) (hchains : ChainsExact s) : linksIn s.table.chains ≤ Config.poolLinks := by
  calc linksIn s.table.chains = ∑ u : Fin 32, s.table.chains[u].length := (Fin.sum_univ_def _).symm
    _ = ∑ u : Fin 32, ((Finset.range Config.groups).filter fun g => u ∈ linkSet (s.group g)).card :=
        Finset.sum_congr rfl fun u _ => chain_length hgroups hchains u
    _ = ∑ g ∈ Finset.range Config.groups, (Finset.univ.filter fun u => u ∈ linkSet (s.group g)).card :=
        Finset.sum_card_bipartiteAbove_eq_sum_card_bipartiteBelow fun u g => u ∈ linkSet (s.group g)
    _ ≤ ∑ g ∈ Finset.range Config.groups, 24 := Finset.sum_le_sum fun g _ => by
        rw [Finset.filter_mem_eq_inter, Finset.univ_inter]
        exact linkSet_card (groupOk_group hgroups g)
    _ = Config.poolLinks := by simp [Config.groups, Config.poolLinks]

/-- Edited chains take their links from the pool and give them back to it (R41). -/
theorem linksOk_relink {g : Nat} {old new : UplinkSet} {s : State}
    (hle : linksIn (relink g old new s).table.chains ≤ s.table.freeLinks + linksIn s.table.chains) :
    (relink g old new s).table.freeLinks + linksIn (relink g old new s).table.chains =
      s.table.freeLinks + linksIn s.table.chains := Nat.sub_add_cancel hle

/-! ### Every step -/

/-- `LinksInv` with the chains read by group number. -/
structure LinksOrder (s : State) : Prop where
  groups : GroupsInv s
  chains : ChainsExact s
  links : LinksOk s

theorem linksInv_iff (s : State) : LinksInv s ↔ LinksOrder s :=
  ⟨fun ⟨hgroups, hchains, hlinks⟩ => ⟨hgroups, (chainsOk_iff hgroups.1.1).mp hchains, hlinks⟩,
    fun ⟨hgroups, hchains, hlinks⟩ => ⟨hgroups, (chainsOk_iff hgroups.1.1).mpr hchains, hlinks⟩⟩

theorem WalkChange.keeps_linksOrder {s t : State} (h : WalkChange s t) (hs : LinksOrder s) : LinksOrder t := by
  obtain ⟨-, hchains, hfree, -⟩ := h.keeps
  exact ⟨h.keeps_groupsInv hs.groups, chainsExact_congr hchains (fun g => by rw [h.group]) hs.chains,
    by rw [LinksOk, hchains, hfree]; exact hs.links⟩

theorem linksOrder_writeGroup {g : Nat} {r : Group} {s : State} (h : RecordWrite s g r) (hs : LinksOrder s) :
    LinksOrder (writeGroup g r s) := by
  have hgroups := groupsInv_writeGroup h hs.groups
  have hchains := chainsExact_writeGroup (g := g) (r := r) hs.chains
  have hpool : s.table.freeLinks + linksIn s.table.chains = Config.poolLinks := hs.links
  have hle := linksIn_le_pool hgroups.1 hchains
  rw [← hpool] at hle
  exact ⟨hgroups, hchains, (linksOk_relink hle).trans hpool⟩

theorem RecordChange.keeps_linksOrder {s t : State} (h : RecordChange s t) (hs : LinksOrder s) : LinksOrder t := by
  cases h with
  | written hwrite => exact linksOrder_writeGroup hwrite hs
  | retiredAtOnce hready hactive hsame =>
    have hretired := linksOrder_writeGroup (.retired _ hready hactive) hs
    exact linksOrder_writeGroup (completed_of_retired hsame) (WalkChange.keeps_linksOrder (.quiet hsame) hretired)
  | completed =>
    have hpool := hs.links
    exact ⟨RecordChange.completed.keeps_groupsInv hs.groups, chainsExact_completeAll hs.groups.1.1 hs.chains,
      by rw [LinksOk, completeAll_chains, completeAll_freeLinks]; exact hpool⟩

theorem TableChange.keeps_linksOrder {s t : State} (h : TableChange s t) (hs : LinksOrder s) : LinksOrder t := by
  cases h with
  | kept hkept => exact hkept.keeps_linksOrder hs
  | wrote hbefore hwrite hafter => exact hafter.keeps_linksOrder (hwrite.keeps_linksOrder (hbefore.keeps_linksOrder hs))

theorem linksOk_empty {s : State} (hchains : s.table.chains = Table.reset.chains) (hfree : s.table.freeLinks = Config.poolLinks) :
    LinksOk s := by
  rw [LinksOk, hchains, hfree]
  exact congrArg (Config.poolLinks + ·) linksIn_reset

theorem Clears.keeps_linksOrder {c : Instr} {s t : State} (h : Clears s c t) (hs : LinksOrder s) : LinksOrder t := by
  refine ⟨h.keeps_groupsInv hs.groups, ?_, ?_⟩
  · cases h with
    | porstFell hcleared | resetServed _ _ hcleared => exact hcleared.walkOrder.chains
    | sweepEnded => exact chainsExact_empty rfl rfl
  · cases h with
    | porstFell hcleared | resetServed _ _ hcleared => exact linksOk_empty (by rw [hcleared.table]) (by rw [hcleared.table]; rfl)
    | sweepEnded => exact linksOk_empty rfl rfl

/-- Settles O11: an edit of the chains moves links between them and the pool, which the links of 4096 groups cannot exceed. -/
theorem linkPoolStaysWhole : Obligations.LinkPoolStaysWhole := by
  have hkept : KeptByEveryStep LinksOrder := keptByEveryStep_of_tableChanges
    (fun _ _ ⟨hgroups, hchains, hlinks⟩ => ⟨hgroups, hchains, hlinks⟩) (fun _ _ h => h.keeps_linksOrder)
    fun _ _ _ h => h.keeps_linksOrder
  intro s t hs h
  rw [linksInv_iff] at hs ⊢
  exact hkept s t hs h

end Sys2Proof.Proofs
end

section
/-! PROOFS. A command that changes a group's record raises its generation (O30). -/
namespace Sys2Proof.Proofs
open Sys2Proof.Machine Sys2Proof.Safety Sys2Proof.Claims

/-- A record before and after a command: the same, or of the next generation, or retired and freed at once, two generations on (R29, R36). -/
def Rises (r r' : Group) : Prop :=
  r' = r ∨ r'.gen = nextGen r.gen ∨ (r.state = .active ∧ r' = freedAt (nextGen (nextGen r.gen)))

/-- Every write of a record raises the generation by 1. -/
theorem RecordWrite.gen_eq {s : State} {g : Nat} {r : Group} (h : RecordWrite s g r) : r.gen = nextGen (s.group g).gen := by
  cases h <;> rfl

theorem rises_writeGroup {s : State} {g : Nat} {r : Group} (h : RecordWrite s g r) (k : Nat) :
    Rises (s.group k) ((writeGroup g r s).group k) := by
  rw [writeGroup_group]
  split
  next heq => exact .inr (.inl (heq ▸ h.gen_eq))
  next => exact .inl rfl

theorem completed_retiredGroup (r : Group) : (retiredGroup r).completed = freedAt (nextGen (nextGen r.gen)) := rfl

theorem RecordChange.rises {s t : State} (h : RecordChange s t) (hwf : SparseWf Group.reset s.table.groups) (k : Nat) :
    Rises (s.group k) (t.group k) := by
  cases h with
  | written hwrite => exact rises_writeGroup hwrite k
  | @retiredAtOnce g m _ hactive hsame =>
    have hm (h : Nat) : m.group h = if h = g then retiredGroup (s.group g) else s.group h := by rw [hsame.group, writeGroup_group]
    rw [writeGroup_group, hm g, if_pos rfl, completed_retiredGroup]
    by_cases hk : k = g
    · rw [if_pos hk, hk]
      exact .inr (.inr ⟨hactive, rfl⟩)
    · rw [if_neg hk, hm, if_neg hk]
      exact .inl rfl
  | completed =>
    rw [completeAll_group hwf]
    split
    · exact .inr (.inl rfl)
    · exact .inl rfl

theorem TableChange.rises {s t : State} (h : TableChange s t) (hwf : SparseWf Group.reset s.table.groups) (k : Nat) :
    Rises (s.group k) (t.group k) := by
  cases h with
  | kept hkept => exact .inl (hkept.group k)
  | wrote hbefore hwrite hafter =>
    rw [hafter.group, ← hbefore.group]
    exact hwrite.rises (hbefore.keeps.1 ▸ hwf) k

/-- Settles O30: outside the resets a command makes at most one change of the records. -/
theorem generationsRiseWithContent : Obligations.GenerationsRiseWithContent := by
  intro c s t hwf hexec hassert hsweep howed g
  rcases exec_tableChange c hexec with hchange | hclears
  · exact hchange.rises hwf g
  · cases hclears with
    | porstFell => exact absurd rfl hassert
    | resetServed n hreset => exact absurd ((howed n rfl).symm.trans hreset) (by decide)
    | sweepEnded => exact absurd rfl hsweep

end Sys2Proof.Proofs
end

section
/-! PROOFS. The granted accesses of Install, Modify and Retire Group (O24 to O26). -/
namespace Sys2Proof.Proofs
open Sys2Proof.Machine Sys2Proof.Safety Sys2Proof.Claims

/-! ### A granted access and its reply -/

theorem access_granted {q : Requester} {s : State} (h : s.grantee = some q) (f : State → State) :
    access q f s = f (granted q s) := if_pos h

section Granted
variable {s : State} (hrun : Runs s) (hgrant : s.grantee = some .mgmt)
include hrun hgrant

theorem exec_installGranted {f : InstallFields} (h : s.mgmt.iface = .serving (.group (.install f))) :
    exec (.installGroup .granted) s = .next (installAccess f (granted .mgmt s)) := by
  simp only [exec, execInstallGroup, unlessReset_runs hrun, h, access_granted hgrant]

theorem exec_modifyGranted {f : ModifyFields} (h : s.mgmt.iface = .serving (.group (.modify f))) :
    exec (.modifyGroup .granted) s = .next (modifyAccess f (granted .mgmt s)) := by
  simp only [exec, execModifyGroup, unlessReset_runs hrun, h, access_granted hgrant]

theorem exec_retireGranted {g : Nat} {expected : Generation} (h : s.mgmt.iface = .serving (.group (.retire g expected))) :
    exec (.retireGroup .granted) s = .next (retireAccess g expected (granted .mgmt s)) := by
  simp only [exec, execRetireGroup, unlessReset_runs hrun, h, access_granted hgrant]

end Granted

/-- A group write's reply carries the group's state and generation (R148). -/
theorem groupReply_eq {status : ReplyStatus} {g : Nat} {s : State} {st : GroupState} {n : Generation}
    (hs : (s.group g).state = st) (hn : (s.group g).gen = n) : groupReply status g s = replied status (stateAndGen st n) s := by
  subst hs hn
  have hpayload : groupPayload (s.group g) = stateAndGen (s.group g).state (s.group g).gen := by
    cases hs : (s.group g).state <;> simp only [groupPayload, stateAndGen, groupStateCode, hs]
  rw [groupReply, formReply_eq_replied, hpayload]

/-- The reply of a write that was reported. -/
theorem groupReply_written (status : ReplyStatus) (g : Nat) (n : Generation) (r : Group) (s : State) :
    groupReply status g (reportChange g n (writeGroup g r s)) =
      replied status (stateAndGen r.state r.gen) (reportChange g n (writeGroup g r s)) := by
  have hgroup : (reportChange g n (writeGroup g r s)).group g = r := by rw [reportChange_group, writeGroup_group, if_pos rfl]
  exact groupReply_eq (by rw [hgroup]) (by rw [hgroup])

/-- The floor is clamped against the primaries carried (R27). -/
theorem clampFloor_eq (carried : Byte) (ms : List Member) : clampFloor carried ms = storedFloor carried ms := by
  have hcount : ms.countP (fun m => m.role == .primary) = (ms.filter fun m => m.role = .primary).length := by
    rw [List.countP_eq_length_filter]
    rfl
  dsimp only [clampFloor, storedFloor]
  rw [hcount]
  generalize (ms.filter fun m => m.role = .primary).length = primaries
  split_ifs <;> omega

/-! ### Install Group (R30, R31) -/

theorem installedGroup_eq (f : InstallFields) (old : Group) (S : UplinkSet) : installedGroup f old S =
    { state := .active, gen := nextGen old.gen, mode := f.mode, floor := storedFloor f.floor f.members, members := f.members
      map := place .full f.members (storedFloor f.floor f.members) (List.replicate 64 none) S } := by
  rw [← clampFloor_eq]
  rfl

/-- Settles O24: the access of a FREE group is one write, the others only reply. -/
theorem installGroupFillsAFreeGroup : Obligations.InstallGroupFillsAFreeGroup := by
  intro f s hrun hiface hgrant r hr
  have hgroup : r = (granted .mgmt s).group f.group := hr
  have hsettled : s.settled = (granted .mgmt s).settled := rfl
  rw [exec_installGranted hrun hgrant hiface, hsettled]
  generalize granted .mgmt s = m at hgroup ⊢
  subst hgroup
  refine ⟨fun hs => ?_, fun hs => ?_, fun hs => ?_⟩
  · rw [installAccess_active hs, groupReply_eq hs rfl]
  · rw [installAccess_retiring hs, groupReply_eq hs rfl]
  · have hold : linksOf (m.group f.group) = 0#32 := linksOf_inactive (by simp [hs])
    have hnew : linksOf (installedGroup f (m.group f.group) m.settled) = related f.members := linksOf_active rfl
    rw [installAccess_free hs, groupReply_written, writeGroup, hold, hnew, installedGroup_eq]

/-! ### The check of the expected generation (R32) -/

theorem refusalOf_free {expected : Generation} {r : Group} (h : r.state = .free) : refusalOf expected r = some .absent := by
  simp [refusalOf, h]

theorem refusalOf_retiring {expected : Generation} {r : Group} (h : r.state = .retiring) :
    refusalOf expected r = some .pending := by simp [refusalOf, h]

theorem refusalOf_stale {expected : Generation} {r : Group} (h : r.state = .active) (h0 : expected ≠ 0#32) (hgen : expected ≠ r.gen) :
    refusalOf expected r = some .stale := by simp [refusalOf, h, h0, hgen]

theorem refusalOf_applied {expected : Generation} {r : Group} (h : r.state = .active) (hgen : expected = 0#32 ∨ expected = r.gen) :
    refusalOf expected r = none := by
  rcases hgen with rfl | rfl <;> simp [refusalOf, h]

/-! ### Modify Group (R33, R34) -/

/-- A group's content is as it was exactly when the whole modified record is: state and generation are not Modify Group's to change. -/
theorem sameContent_iff (f : ModifyFields) (r : Group) (S : UplinkSet) :
    sameContent r (modifiedGroup f r S) = true ↔ modifiedGroup f r S = r := by
  obtain ⟨state, gen, mode, floor, members, map⟩ := r
  simp only [sameContent, modifiedGroup, Bool.and_eq_true, beq_iff_eq, Group.mk.injEq, true_and]
  constructor
  · rintro ⟨⟨⟨hmembers, hmode⟩, hfloor⟩, hmap⟩
    exact ⟨hmode.symm, hfloor.symm, hmembers.symm, hmap.symm⟩
  · rintro ⟨hmode, hfloor, hmembers, hmap⟩
    exact ⟨⟨⟨hmembers.symm, hmode.symm⟩, hfloor.symm⟩, hmap.symm⟩

/-- The map rewritten bucket by bucket, members matched by uplink (R33). -/
theorem eq_rewriteMap {old new : List Member} {m start : BucketMap} (hlen : start.length = m.length)
    (hstart : ∀ b < start.length, start[b]? =
      some (((m[b]?).bind id).bind fun p => (old[p]?).bind fun o => new.findIdx? fun n => n.uplink == o.uplink)) :
    start = rewriteMap old new m := by
  refine List.ext_getElem (by rw [hlen, rewriteMap_length]) fun b hb hb' => ?_
  have hm : b < m.length := hlen ▸ hb
  have hbucket := hstart b hb
  rw [List.getElem?_eq_getElem hb, List.getElem?_eq_getElem hm] at hbucket
  simpa [rewriteMap] using hbucket

theorem modifiedGroup_eq (f : ModifyFields) (r : Group) (S : UplinkSet) : modifiedGroup f r S =
    { r with mode := f.mode, floor := storedFloor f.floor f.members, members := f.members
             map := place .full f.members (storedFloor f.floor f.members) (rewriteMap r.members f.members r.map) S } := by
  rw [← clampFloor_eq]
  rfl

/-- Settles O25: the check, then the record with its map rewritten by uplink, written exactly when it differs. -/
theorem modifyGroupMatchesMembersByUplink : Obligations.ModifyGroupMatchesMembersByUplink := by
  intro f s hrun hiface hgrant r hr
  have hgroup : r = (granted .mgmt s).group f.group := hr
  have hsettled : s.settled = (granted .mgmt s).settled := rfl
  rw [exec_modifyGranted hrun hgrant hiface, hsettled]
  generalize granted .mgmt s = m at hgroup ⊢
  subst hgroup
  refine ⟨fun hs => ?_, fun hs => ?_, fun hs h0 hgen => ?_, fun hs hgen start hlen hstart r' hr' => ?_⟩
  · rw [modifyAccess_refused (refusalOf_free hs), groupReply_eq hs rfl]
  · rw [modifyAccess_refused (refusalOf_retiring hs), groupReply_eq hs rfl]
  · rw [modifyAccess_refused (refusalOf_stale hs h0 hgen), groupReply_eq hs rfl]
  · have hmap : start = rewriteMap (m.group f.group).members f.members (m.group f.group).map := by
      refine eq_rewriteMap hlen fun b hb => (hstart b hb).trans (congrArg some ?_)
      cases ((m.group f.group).map[b]?).bind id with
      | none => rfl
      | some p =>
        simp only [Option.bind_some]
        cases (m.group f.group).members[p]? <;> rfl
    have hmodified : r' = modifiedGroup f (m.group f.group) m.settled := by rw [hr', hmap, modifiedGroup_eq]
    have happlied := refusalOf_applied (expected := f.expected) hs hgen
    have hsame := sameContent_iff f (m.group f.group) m.settled
    have hnew : linksOf (rewrittenGroup f (m.group f.group) m.settled) = related f.members := linksOf_active hs
    rw [hmodified]
    refine ⟨fun heq => ?_, fun hne => ?_⟩
    · rw [modifyAccess_unchanged happlied (hsame.mpr heq), groupReply_eq hs rfl]
    · rw [modifyAccess_changed happlied (Bool.eq_false_iff.mpr fun h => hne (hsame.mp h)), groupReply_written, writeGroup,
        linksOf_active hs, hnew, ← hs]
      rfl

/-! ### Retire Group (R35, R36) -/

theorem named_iff (s : State) (g : Nat) : s.named g = true ↔ names s.lp0 g ∨ names s.lp1 g := by
  simp [State.named, names]

/-- Settles O26: one write, and a second in the same access when no entry names the group after the first. -/
theorem retireGroupWaitsForItsRetracts : Obligations.RetireGroupWaitsForItsRetracts := by
  intro g expected s hrun hiface hgrant r hr
  have hgroup : r = (granted .mgmt s).group g := hr
  rw [exec_retireGranted hrun hgrant hiface]
  generalize granted .mgmt s = m at hgroup ⊢
  subst hgroup
  refine ⟨fun hs => ?_, fun hs => ?_, fun hs h0 hgen => ?_, fun hs hgen s1 hs1 => ?_⟩
  · rw [retireAccess_refused (refusalOf_free hs), groupReply_eq hs rfl]
  · rw [retireAccess_refused (refusalOf_retiring hs), groupReply_eq hs rfl]
  · rw [retireAccess_refused (refusalOf_stale hs h0 hgen), groupReply_eq hs rfl]
  · have hnew : linksOf (retiredGroup (m.group g)) = 0#32 := linksOf_inactive (by simp [retiredGroup])
    have hwritten : s1 = reportChange g (nextGen (m.group g).gen) (writeGroup g (retiredGroup (m.group g)) m) := by
      rw [hs1, writeGroup, linksOf_active hs, hnew]
      rfl
    have hretired : s1.group g = retiredGroup (m.group g) := by rw [hwritten, reportChange_group, writeGroup_group, if_pos rfl]
    rw [retireAccess_applied (refusalOf_applied hs hgen), ← hwritten]
    refine ⟨fun hnamed => ?_, fun h0 h1 => ?_⟩
    · have hkept : completeGroup g s1 = s1 := by simp [completeGroup, (named_iff s1 g).mpr hnamed]
      rw [hkept, groupReply_eq (congrArg Group.state hretired) (congrArg Group.gen hretired)]
      rfl
    · have hunnamed : s1.named g = false := Bool.eq_false_iff.mpr fun h => ((named_iff s1 g).mp h).elim h0 h1
      have hfreed : completeGroup g s1 = flagged 0x80#8 (s1.setGroup g (freedAt (nextGen (nextGen (m.group g).gen)))) := by
        rw [completeGroup, hretired, hunnamed]
        rfl
      have hgroup : (completeGroup g s1).group g = freedAt (nextGen (nextGen (m.group g).gen)) := by
        rw [hfreed]
        exact State.group_setGroup_same _ _ _
      rw [groupReply_eq (congrArg Group.state hgroup) (congrArg Group.gen hgroup), hfreed]
      rfl

end Sys2Proof.Proofs
end

section
/-! PROOFS. The chain edits of an access (O28). -/
namespace Sys2Proof.Proofs
open Sys2Proof.Machine Sys2Proof.Safety Sys2Proof.Claims

theorem editChain_unlink_eq_filter (g : Nat) {c : List Nat} (h : c.Nodup) : editChain g true false c = c.filter fun h => h ≠ g := by
  rw [editChain_unlink, h.erase_eq_filter]
  exact List.filter_congr fun x _ => by simp [bne, beq_eq_decide]

/-- The link after the first g of a chain is the head of what follows it. -/
theorem successor_append {g : Nat} {before : List Nat} (after : List Nat) (h : g ∉ before) :
    successor g (before ++ g :: after) = after.head? := by
  induction before with
  | nil => simp [successor]
  | cons x t ih =>
    obtain ⟨hx, ht⟩ := not_or.mp (List.mem_cons.not.mp h)
    simp only [List.cons_append, successor, if_neg (Ne.symm hx), ih ht]

/-- A cursor at a link stays unless that link is unlinked (R40). -/
theorem editCursor_stays {g h : Nat} {was is : Bool} {c : List Nat} (hkept : h ≠ g ∨ was = false ∨ is = true) :
    editCursor g was is c (some h) = some h := by
  rcases hkept with hne | rfl | rfl <;> simp [editCursor]
  exact fun _ _ heq => absurd heq hne

/-- A cursor at the chain's end stays unless the group is appended (R40). -/
theorem editCursor_end {g : Nat} {was is : Bool} {c : List Nat} (hkept : was = true ∨ is = false) :
    editCursor g was is c none = none := by
  rcases hkept with rfl | rfl <;> simp [editCursor]

theorem editCursor_appended {g : Nat} {c : List Nat} (h : g ∉ c) : editCursor g false true c none = some g := by
  simp [editCursor, h]

/-- An engine whose job the edit leaves is left whole. -/
theorem relink_walk_kept {g : Nat} {old new : UplinkSet} {s : State}
    (h : editJob g old new s.table.chains s.walk.job = s.walk.job) : (relink g old new s).walk = s.walk := by
  rw [relink_walk, h]

/-- Settles O28: chain by chain, and for each place of the cursor. -/
theorem chainEditsKeepOrderAndCursor : Obligations.ChainEditsKeepOrderAndCursor := by
  intro g old new s t ht
  subst ht
  refine ⟨fun u hnodup => ⟨fun hsame => ?_, fun hold hnew hg => ?_, fun hold hnew => ?_⟩,
    fun u h hjob => ⟨fun hkept => ?_, fun hold hnew before after hchain hg heq => ?_⟩,
    fun u hjob => ⟨fun hold hnew hg => ?_, fun hkept => ?_⟩, fun hother => ?_, linksOk_relink, rfl, fun ms u => ?_⟩
  · rw [relink_chain, hsame, editChain_same]
  · rw [relink_chain, hold, hnew, editChain_append hg]
  · rw [relink_chain, hold, hnew, editChain_unlink_eq_filter g hnodup]
  · exact relink_walk_kept (by rw [hjob, editJob, editCursor_stays hkept])
  · rw [relink_walk, hjob, editJob, hold, hnew, hchain, heq]
    simp only [editCursor, Bool.not_false, Bool.and_self, if_true, successor_append after hg]
  · rw [relink_walk, hjob, editJob, hold, hnew, editCursor_appended hg]
  · exact relink_walk_kept (by rw [hjob, editJob, editCursor_end hkept])
  · refine relink_walk_kept ?_
    rcases hj : s.walk.job with _ | ⟨u, c⟩ | _
    · rfl
    · exact absurd hj (hother u c)
    · rfl
  · simp only [getLsbD_related, List.any_eq_true, Bool.or_eq_true, beq_iff_eq]

end Sys2Proof.Proofs
end

section
/-! PROOFS. The arbiter (O32). -/
namespace Sys2Proof.Proofs
open Sys2Proof.Machine Sys2Proof.Safety Sys2Proof.Claims

/-! ### The grant (R42, R47) -/

theorem grantee_init {s : State} (h : s.table.ready = false) : s.grantee = none := by simp [State.grantee, h]

/-- The first that meets a test in a list of rising ranks is the one of least rank that meets it. -/
theorem find?_eq_some_iff_least {α : Type} {l : List α} {p : α → Bool} {rank : α → Nat}
    (hl : l.Pairwise fun a b => rank a < rank b) (q : α) :
    l.find? p = some q ↔ (q ∈ l ∧ p q = true) ∧ ∀ q' ∈ l, p q' = true → rank q ≤ rank q' := by
  induction l with
  | nil => simp
  | cons x t ih =>
    obtain ⟨hx, ht⟩ := List.pairwise_cons.mp hl
    cases hp : p x
    · rw [List.find?_cons_of_neg (by simp [hp]), ih ht]
      have hskip (q' : α) (hq' : p q' = true) : q' ∈ x :: t ↔ q' ∈ t := by
        rw [List.mem_cons, or_iff_right]
        rintro rfl
        simp [hp] at hq'
      constructor
      · rintro ⟨⟨hmem, hq⟩, hleast⟩
        exact ⟨⟨(hskip q hq).mpr hmem, hq⟩, fun q' hq' hpq' => hleast q' ((hskip q' hpq').mp hq') hpq'⟩
      · rintro ⟨⟨hmem, hq⟩, hleast⟩
        exact ⟨⟨(hskip q hq).mp hmem, hq⟩, fun q' hq' hpq' => hleast q' (List.mem_cons_of_mem _ hq') hpq'⟩
    · rw [List.find?_cons_of_pos hp]
      constructor
      · rintro ⟨⟩
        refine ⟨⟨List.mem_cons_self, hp⟩, fun q' hq' _ => ?_⟩
        rcases List.mem_cons.mp hq' with rfl | hq'
        · exact Nat.le_refl _
        · exact (hx q' hq').le
      · rintro ⟨⟨hmem, -⟩, hleast⟩
        rcases List.mem_cons.mp hmem with rfl | hmem
        · rfl
        · exact absurd (hleast x List.mem_cons_self hp) (Nat.not_le.mpr (hx q hmem))

theorem mem_cyclicAfter (last q : Requester) : q ∈ cyclicAfter last := by cases last <;> cases q <;> decide

/-- The cyclic order counts from the requester after the last granted. -/
theorem cyclicAfter_rising {pos after : Requester → Nat} {last : Requester} (h0 : pos .lp0 = 0) (h1 : pos .lp1 = 1)
    (h2 : pos .walk = 2) (h3 : pos .mgmt = 3) (hafter : ∀ q, after q = (pos q + 3 - pos last) % 4) :
    (cyclicAfter last).Pairwise fun a b => after a < after b := by
  cases last <;> simp [cyclicAfter, hafter, h0, h1, h2, h3]

theorem grantee_ready {s : State} {after : Requester → Nat} (hready : s.table.ready = true)
    (hrising : (cyclicAfter s.table.lastGranted).Pairwise fun a b => after a < after b) (q : Requester) :
    s.grantee = some q ↔ s.waits q = true ∧ ∀ q', s.waits q' = true → after q ≤ after q' := by
  rw [State.grantee, if_pos hready, find?_eq_some_iff_least hrising]
  simp only [mem_cyclicAfter, true_and, true_implies]

/-! ### Who waits (R42) -/

theorem waits_port (s : State) (i : PortId) :
    s.waits (requesterOf i) = true ↔ ∃ e ∈ (s.port i).answers, e.needsAccess = true ∧ e.answer = none := by
  have hwaits : s.waits (requesterOf i) = (s.port i).answers.any ResolveEntry.unserved := by cases i <;> rfl
  simp only [hwaits, List.any_eq_true, ResolveEntry.unserved, Bool.and_eq_true, Option.isNone_iff_eq_none]

theorem waits_walk (s : State) : s.waits .walk = true ↔ s.walk.job ≠ none := Option.isSome_iff_ne_none

theorem waits_mgmt (s : State) : s.waits .mgmt = true ↔
    (∃ r, s.mgmt.iface = .serving (.group r)) ∨ ∃ v, s.mgmt.iface = .serving (.survey v) := by
  unfold State.waits
  rcases s.mgmt.iface with _ | ⟨r | v | b⟩ | _ <;> simp

/-! ### Accesses that do not take place (log 3, log 6) -/

/-- A meaning that leaves this state as it is changes nothing, in a reset or outside. -/
theorem unlessReset_same {s : State} {f : State → State} (h : f s = s) : unlessReset s f = .next s := by
  rw [unlessReset, h, ite_self]

section Kept
variable {s : State}

theorem exec_resolveAccess_kept {i : PortId} (h : s.grantee ≠ some (requesterOf i)) : exec (.resolveAccess i) s = .next s := by
  simp only [exec, execResolveAccess]
  exact unlessReset_same (if_neg h)

theorem exec_uplinkJobVisit_kept (h : s.grantee ≠ some .walk ∨ ∀ u g, s.walk.job ≠ some (.uplink u (some g))) :
    exec .uplinkJobVisit s = .next s := by
  simp only [exec, execUplinkJobVisit]
  refine unlessReset_same ?_
  split
  next hkind => exact if_neg (h.resolve_right fun hno => hno _ _ hkind)
  next => rfl

theorem exec_closingAccess_kept (h : s.grantee ≠ some .walk ∨ ∀ u, s.walk.job ≠ some (.uplink u none)) :
    exec .closingAccess s = .next s := by
  simp only [exec, execClosingAccess]
  refine unlessReset_same ?_
  split
  next hkind => exact if_neg (h.resolve_right fun hno => hno _ hkind)
  next => rfl

theorem exec_sweepVisit_kept (h : s.grantee ≠ some .walk ∨ ∀ first count next, s.walk.job ≠ some (.sweep first count next)) :
    exec .sweepVisit s = .next s := by
  simp only [exec, execSweepVisit]
  refine unlessReset_same ?_
  split
  next hkind => exact if_neg (h.resolve_right fun hno => hno _ _ _ hkind)
  next => rfl

theorem exec_installGranted_kept (h : s.grantee ≠ some .mgmt ∨ ∀ f, s.mgmt.iface ≠ .serving (.group (.install f))) :
    exec (.installGroup .granted) s = .next s := by
  simp only [exec, execInstallGroup]
  refine unlessReset_same ?_
  split
  next hkind => exact if_neg (h.resolve_right fun hno => hno _ hkind)
  next => rfl

theorem exec_modifyGranted_kept (h : s.grantee ≠ some .mgmt ∨ ∀ f, s.mgmt.iface ≠ .serving (.group (.modify f))) :
    exec (.modifyGroup .granted) s = .next s := by
  simp only [exec, execModifyGroup]
  refine unlessReset_same ?_
  split
  next hkind => exact if_neg (h.resolve_right fun hno => hno _ hkind)
  next => rfl

theorem exec_retireGranted_kept (h : s.grantee ≠ some .mgmt ∨ ∀ g n, s.mgmt.iface ≠ .serving (.group (.retire g n))) :
    exec (.retireGroup .granted) s = .next s := by
  simp only [exec, execRetireGroup]
  refine unlessReset_same ?_
  split
  next hkind => exact if_neg (h.resolve_right fun hno => hno _ _ hkind)
  next => rfl

theorem exec_readGranted_kept (h : s.grantee ≠ some .mgmt ∨ ∀ g, s.mgmt.iface ≠ .serving (.group (.read g))) :
    exec (.readGroup .granted) s = .next s := by
  simp only [exec, execReadGroup]
  refine unlessReset_same ?_
  split
  next hkind => exact if_neg (h.resolve_right fun hno => hno _ hkind)
  next => rfl

theorem exec_rangeSurveyAccess_kept (h : s.grantee ≠ some .mgmt ∨ ∀ v, s.mgmt.iface ≠ .serving (.survey v)) :
    exec .rangeSurveyAccess s = .next s := by
  simp only [exec, execRangeSurveyAccess]
  refine unlessReset_same ?_
  split
  next hkind => exact if_neg (h.resolve_right fun hno => hno _ hkind)
  next => rfl

end Kept

theorem exec_ungranted {s : State} {q : Requester} {c : Instr} (hc : c ∈ accessesOf q) (h : s.grantee ≠ some q) :
    exec c s = .next s := by
  cases q <;> simp only [accessesOf, List.mem_cons, List.not_mem_nil, or_false] at hc
  case lp0 => rw [hc]; exact exec_resolveAccess_kept h
  case lp1 => rw [hc]; exact exec_resolveAccess_kept h
  case walk =>
    rcases hc with rfl | rfl | rfl
    · exact exec_uplinkJobVisit_kept (.inl h)
    · exact exec_closingAccess_kept (.inl h)
    · exact exec_sweepVisit_kept (.inl h)
  case mgmt =>
    rcases hc with rfl | rfl | rfl | rfl | rfl
    · exact exec_installGranted_kept (.inl h)
    · exact exec_modifyGranted_kept (.inl h)
    · exact exec_retireGranted_kept (.inl h)
    · exact exec_readGranted_kept (.inl h)
    · exact exec_rangeSurveyAccess_kept (.inl h)

/-- Settles O32: the grant, who waits, and the access commands that change nothing. -/
theorem arbiterGrantsInCyclicOrder : Obligations.ArbiterGrantsInCyclicOrder := by
  refine ⟨fun s pos h0 h1 h2 h3 after hafter => ⟨grantee_init,
      fun hready => grantee_ready hready (cyclicAfter_rising h0 h1 h2 h3 hafter), waits_port s, waits_walk s, waits_mgmt s⟩,
    fun s q c hc hblocked => exec_ungranted hc ?_, fun s => ⟨fun h => exec_uplinkJobVisit_kept (.inr h),
      fun h => exec_closingAccess_kept (.inr h), fun h => exec_sweepVisit_kept (.inr h), fun h => exec_installGranted_kept (.inr h),
      fun h => exec_modifyGranted_kept (.inr h), fun h => exec_retireGranted_kept (.inr h), fun h => exec_readGranted_kept (.inr h),
      fun h => exec_rangeSurveyAccess_kept (.inr h)⟩⟩
  rcases hblocked with hinit | hne
  · simp [grantee_init hinit]
  · exact hne

end Sys2Proof.Proofs
end

section
/-! PROOFS. Quotas: the extra buckets go to the positions of the largest remainders, and the quotas sum to 64 (R55, O53). -/
namespace Sys2Proof.Proofs
open Sys2Proof.Machine Sys2Proof.Safety Sys2Proof.Claims

/-! ### The positions of a list -/

section Positions
variable {α : Type}

theorem zipIdx_eq_map_finRange (l : List α) : l.zipIdx = (List.finRange l.length).map fun i => (l[i], i.val) :=
  List.ext_getElem (by simp) (by simp)

theorem countP_zipIdx (l : List α) (f : α × Nat → Bool) :
    l.zipIdx.countP f = (Finset.univ.filter fun i : Fin l.length => f (l[i], i.val) = true).card := by
  rw [zipIdx_eq_map_finRange, List.countP_map, List.countP_eq_length_filter]
  exact congrArg (fun p => ((List.finRange l.length).filter p).length) (funext fun i => Bool.decide_eq_true.symm)

theorem sum_zipIdx_map (l : List α) (f : α × Nat → Nat) : (l.zipIdx.map f).sum = ∑ i : Fin l.length, f (l[i], i.val) := by
  rw [zipIdx_eq_map_finRange, List.map_map, Fin.sum_univ_def]
  rfl

end Positions

/-! ### Ranks under an order -/

section Ranks
variable {α β : Type} [LinearOrder β] {key : α → β} {s : Finset α}

/-- How many elements of `s` stand before `x` in the order of their keys. -/
def rankIn (key : α → β) (s : Finset α) (x : α) : Nat := (s.filter fun y => key y < key x).card

theorem rankIn_lt_rankIn {x y : α} (hx : x ∈ s) (h : key x < key y) : rankIn key s x < rankIn key s y := by
  refine Finset.card_lt_card (Finset.ssubset_iff_of_subset ?_ |>.mpr ⟨x, by simp [hx, h], by simp⟩)
  exact Finset.monotone_filter_right s fun z _ hz => lt_trans hz h

theorem rankIn_lt_card {x : α} (hx : x ∈ s) : rankIn key s x < s.card :=
  Finset.card_lt_card (Finset.filter_ssubset.mpr ⟨x, hx, lt_irrefl _⟩)

theorem rankIn_injOn (hkey : Set.InjOn key s) : Set.InjOn (rankIn key s) s := by
  intro x hx y hy hrank
  rcases lt_trichotomy (key x) (key y) with h | h | h
  · exact absurd hrank (rankIn_lt_rankIn hx h).ne
  · exact hkey hx hy h
  · exact absurd hrank (rankIn_lt_rankIn hy h).ne'

/-- The ranks of distinct keys are the numbers below the size of the set. -/
theorem image_rankIn (hkey : Set.InjOn key s) : s.image (rankIn key s) = Finset.range s.card := by
  refine Finset.eq_of_subset_of_card_le (fun k hk => ?_) ?_
  · obtain ⟨x, hx, rfl⟩ := Finset.mem_image.mp hk
    exact Finset.mem_range.mpr (rankIn_lt_card hx)
  · rw [Finset.card_range, Finset.card_image_of_injOn (rankIn_injOn hkey)]

theorem card_rankIn_lt (hkey : Set.InjOn key s) {k : Nat} (hk : k ≤ s.card) :
    (s.filter fun x => rankIn key s x < k).card = k := by
  have hinj : Set.InjOn (rankIn key s) (s.filter fun x => rankIn key s x < k) :=
    (rankIn_injOn hkey).mono (Finset.filter_subset _ s)
  have hbelow : (Finset.range s.card).filter (· < k) = Finset.range k := by
    ext n; simp only [Finset.mem_filter, Finset.mem_range]; omega
  rw [← Finset.card_image_of_injOn hinj, ← Finset.filter_image (p := (· < k)), image_rankIn hkey, hbelow, Finset.card_range]

end Ranks

/-! ### The order of the extras -/

/-- The positions of weight 1 or more. -/
def weighted (ws : List Nat) : Finset (Fin ws.length) := Finset.univ.filter fun i => ws[i] ≠ 0

/-- The larger remainder first, then the lower position. -/
def extraKey (ws : List Nat) (i : Fin ws.length) : Natᵒᵈ ×ₗ Nat := toLex (OrderDual.toDual (remainder ws.sum ws[i]), i.val)

theorem extraKey_lt {ws : List Nat} {i j : Fin ws.length} : extraKey ws i < extraKey ws j ↔
    remainder ws.sum ws[j] < remainder ws.sum ws[i] ∨ (remainder ws.sum ws[j] = remainder ws.sum ws[i] ∧ i.val < j.val) := by
  simp only [extraKey, Prod.Lex.toLex_lt_toLex, OrderDual.toDual_lt_toDual, OrderDual.toDual_inj, eq_comm]

theorem extraKey_injOn (ws : List Nat) : Set.InjOn (extraKey ws) (weighted ws) :=
  fun _ _ _ _ h => Fin.ext (congrArg (fun k => (ofLex k).2) h)

theorem extraRank_eq_rankIn (ws : List Nat) (i : Fin ws.length) :
    extraRank ws.sum ws i.val ws[i] = rankIn (extraKey ws) (weighted ws) i := by
  rw [extraRank, countP_zipIdx, rankIn, weighted, Finset.filter_filter]
  simp [extraKey_lt]

/-! ### Base quotas and remainders -/

@[simp] theorem baseQuota_zero (W : Nat) : baseQuota W 0 = 0 := by simp [baseQuota]

@[simp] theorem remainder_zero (W : Nat) : remainder W 0 = 0 := by simp [remainder]

theorem baseQuota_remainder (W w : Nat) : W * baseQuota W w + remainder W w = 64 * w := Nat.div_add_mod _ _

/-- The number E of extra buckets. -/
def extras (ws : List Nat) : Nat := 64 - (ws.map (baseQuota ws.sum)).sum

/-- The remainders make up what the base quotas leave of 64 times W. -/
theorem sum_baseQuota_add_remainder (ws : List Nat) :
    ws.sum * (ws.map (baseQuota ws.sum)).sum + (ws.map (remainder ws.sum)).sum = 64 * ws.sum := by
  rw [← List.sum_map_mul_left, ← List.sum_map_add]
  simpa only [baseQuota_remainder, List.map_id'] using List.sum_map_mul_left ws (fun w => w) 64

theorem sum_baseQuota_le {ws : List Nat} (hW : 0 < ws.sum) : (ws.map (baseQuota ws.sum)).sum ≤ 64 := by
  have htotal := sum_baseQuota_add_remainder ws
  exact Nat.le_of_mul_le_mul_left (by omega : ws.sum * _ ≤ ws.sum * 64) hW

/-- A remainder is less than W, so the remainders make up at most W for each weighted position. -/
theorem sum_remainder_le {ws : List Nat} (hW : 0 < ws.sum) : (ws.map (remainder ws.sum)).sum ≤ (weighted ws).card * ws.sum := by
  rw [← Fin.sum_univ_fun_getElem, ← smul_eq_mul,
    ← Finset.sum_subset (Finset.subset_univ (weighted ws)) fun i _ hi => by simp_all [weighted]]
  exact Finset.sum_le_card_nsmul _ _ _ fun i _ => (Nat.mod_lt _ hW).le

/-- There are members enough to take the extras. -/
theorem extras_le_card {ws : List Nat} (hW : 0 < ws.sum) : extras ws ≤ (weighted ws).card := by
  have htotal := sum_baseQuota_add_remainder ws
  have hrest := sum_remainder_le hW
  have hle : ws.sum * 64 ≤ ws.sum * ((ws.map (baseQuota ws.sum)).sum + (weighted ws).card) := by
    rw [Nat.mul_add, Nat.mul_comm ws.sum (weighted ws).card]; omega
  have := Nat.le_of_mul_le_mul_left hle hW
  simp only [extras]; omega

/-! ### The quotas -/

/-- The positions that get an extra bucket. -/
def extraTakers (ws : List Nat) : Finset (Fin ws.length) :=
  (weighted ws).filter fun i => rankIn (extraKey ws) (weighted ws) i < extras ws

@[simp] theorem quotas_length (ws : List Nat) : (quotas ws).length = ws.length := by simp [quotas]

/-- The quota of a position, in the words of R55. -/
theorem quotas_getElem (ws : List Nat) (i : Fin ws.length) :
    (quotas ws)[i]'(by simp) = baseQuota ws.sum ws[i] + if i ∈ extraTakers ws then 1 else 0 := by
  have hrank := extraRank_eq_rankIn ws i
  by_cases hw : ws[i] = 0
  · simp_all [quotas, extraTakers, weighted]
  · simp_all [quotas, extraTakers, weighted, extras, Config.buckets]

theorem quotas_getElem? {ws : List Nat} {i w : Nat} (h : ws[i]? = some w) : ∃ hi : i < ws.length, ws[i] = w ∧
    (quotas ws)[i]? = some (baseQuota ws.sum w + if ⟨i, hi⟩ ∈ extraTakers ws then 1 else 0) := by
  obtain ⟨hi, rfl⟩ := List.getElem?_eq_some_iff.mp h
  refine ⟨hi, rfl, ?_⟩
  rw [List.getElem?_eq_getElem (by simpa using hi)]
  exact congrArg some (quotas_getElem ws ⟨i, hi⟩)

theorem quotas_sum {ws : List Nat} (hW : 0 < ws.sum) : (quotas ws).sum = 64 := by
  have hmap : quotas ws = (List.finRange ws.length).map fun i =>
      baseQuota ws.sum ws[i] + if i ∈ extraTakers ws then 1 else 0 :=
    List.ext_getElem (by simp) fun i hi _ => by
      simpa using quotas_getElem ws ⟨i, by simpa using hi⟩
  calc (quotas ws).sum
      = ∑ i : Fin ws.length, (baseQuota ws.sum ws[i] + if i ∈ extraTakers ws then 1 else 0) := by
        rw [hmap, Fin.sum_univ_def]
    _ = (ws.map (baseQuota ws.sum)).sum + (extraTakers ws).card := by
        rw [Finset.sum_add_distrib, Finset.sum_ite_mem, ← Fin.sum_univ_fun_getElem]
        simp
    _ = (ws.map (baseQuota ws.sum)).sum + extras ws := by
        rw [extraTakers, card_rankIn_lt (extraKey_injOn ws) (extras_le_card hW)]
    _ = 64 := Nat.add_sub_cancel' (sum_baseQuota_le hW)

/-- A weight of 0 has quota 0. -/
theorem quotas_of_weight_zero {ws : List Nat} {i : Nat} (h : ws[i]? = some 0) : (quotas ws)[i]? = some 0 := by
  obtain ⟨hi, hzero, hquota⟩ := quotas_getElem? h
  simpa [extraTakers, weighted, hzero] using hquota

theorem quotas_base_or_succ {ws : List Nat} {i w : Nat} (h : ws[i]? = some w) :
    (quotas ws)[i]? = some (64 * w / ws.sum) ∨ (quotas ws)[i]? = some (64 * w / ws.sum + 1) := by
  obtain ⟨hi, -, hquota⟩ := quotas_getElem? h
  by_cases htakes : (⟨i, hi⟩ : Fin ws.length) ∈ extraTakers ws
  · exact .inr (by rw [hquota, if_pos htakes]; rfl)
  · exact .inl (by rw [hquota, if_neg htakes]; rfl)

/-- Who gets an extra stands before who gets none. -/
theorem extraKey_lt_of_takes {ws : List Nat} {i j : Fin ws.length} (hi : i ∈ extraTakers ws) (hj : j ∉ extraTakers ws)
    (hwj : ws[j] ≠ 0) : extraKey ws i < extraKey ws j := by
  have hmem : j ∈ weighted ws := by simpa [weighted] using hwj
  simp only [extraTakers, Finset.mem_filter, hmem, true_and, not_lt] at hi hj
  rcases lt_trichotomy (extraKey ws i) (extraKey ws j) with h | h | h
  · exact h
  · cases extraKey_injOn ws hi.1 hmem h; omega
  · have := rankIn_lt_rankIn hmem h; omega

/-- Settles O53: as many extras are given as there are, and in the order of the ranks. -/
theorem quotasSumTo64 : Obligations.QuotasSumTo64 := by
  rintro ws W rfl hW
  refine ⟨quotas_length ws, quotas_sum hW, fun i w h => ⟨fun hw => quotas_of_weight_zero (hw ▸ h), fun _ => quotas_base_or_succ h⟩, ?_⟩
  intro i j wi wj hi hj _ hwj hextra hnone
  obtain ⟨hli, rfl, hqi⟩ := quotas_getElem? hi
  obtain ⟨hlj, rfl, hqj⟩ := quotas_getElem? hj
  have htakes : (⟨i, hli⟩ : Fin ws.length) ∈ extraTakers ws := by
    by_contra hno
    rw [hqi, if_neg hno] at hextra
    exact Nat.succ_ne_self _ (Option.some.inj hextra).symm
  have hmisses : (⟨j, hlj⟩ : Fin ws.length) ∉ extraTakers ws := fun hyes => by
    rw [hqj, if_pos hyes] at hnone
    exact Nat.succ_ne_self _ (Option.some.inj hnone)
  exact extraKey_lt.mp (extraKey_lt_of_takes htakes hmisses hwj.ne')

end Sys2Proof.Proofs
end

section
/-! PROOFS. The freeing and the filling, bucket by bucket (R57 to R59, O58). -/
namespace Sys2Proof.Proofs
open Sys2Proof.Machine Sys2Proof.Safety Sys2Proof.Claims

/-! ### Freeing (R57, R58) -/

/-- The first step keeps a bucket exactly when it names an active member. -/
theorem freeInactive_getElem? {act : List Bool} {m : BucketMap} {b p : Nat} :
    (freeInactive act m)[b]? = some (some p) ↔ m[b]? = some (some p) ∧ act.getD p false = true := by
  simp only [freeInactive, List.getElem?_map, Option.map_eq_some_iff, Option.filter_eq_some_iff]
  constructor
  · rintro ⟨_, hb, rfl, hact⟩; exact ⟨hb, hact⟩
  · rintro ⟨hb, hact⟩; exact ⟨_, hb, rfl, hact⟩

/-- The first step takes no bucket from an active member. -/
theorem count_freeInactive {act : List Bool} {p : Nat} (hp : act.getD p false = true) (m : BucketMap) :
    (freeInactive act m).count (some p) = m.count (some p) := by
  rw [freeInactive, List.count_eq_countP, List.countP_map, List.count_eq_countP]
  refine List.countP_congr fun b _ => ?_
  simp only [Function.comp_apply, beq_iff_eq, Option.filter_eq_some_iff]
  exact ⟨fun h => h.1, fun h => ⟨h, hp⟩⟩

theorem freeInactive_take (act : List Bool) (m : BucketMap) (b : Nat) :
    (freeInactive act m).take b = freeInactive act (m.take b) := by
  simp [freeInactive, List.map_take]

/-- The second step keeps a bucket exactly when its member holds fewer than its quota below it. -/
theorem freeExcess_getElem? {qs : List Nat} {before m : BucketMap} {b p : Nat} :
    (freeExcess qs before m)[b]? = some (some p) ↔
      m[b]? = some (some p) ∧ before.count (some p) + (m.take b).count (some p) < qs.getD p 0 := by
  induction m generalizing before b with
  | nil => simp [freeExcess]
  | cons c t ih =>
    cases c with
    | none => cases b with
      | zero => simp [freeExcess]
      | succ b => simpa [freeExcess] using ih
    | some q => cases b with
      | zero =>
        simp only [freeExcess, List.getElem?_cons_zero, List.take_zero, List.count_nil, Nat.add_zero, Option.some.injEq]
        constructor
        · intro h
          split at h
          next hlt => cases h; exact ⟨rfl, hlt⟩
          next => cases h
        · rintro ⟨rfl, hlt⟩; exact if_pos hlt
      | succ b =>
        have hcount : (some q :: before).count (some p) + (t.take b).count (some p) =
            before.count (some p) + ((some q :: t).take (b + 1)).count (some p) := by
          simp only [List.take_succ_cons, List.count_cons]; omega
        simpa only [freeExcess, List.getElem?_cons_succ, hcount] using ih (before := some q :: before) (b := b)

theorem freed_keep_getElem? {act : List Bool} {qs : List Nat} {start : BucketMap} {b p : Nat} :
    (freed .keep act qs start)[b]? = some (some p) ↔ start[b]? = some (some p) ∧ act.getD p false = true := freeInactive_getElem?

theorem freed_full_getElem? {act : List Bool} {qs : List Nat} {start : BucketMap} {b p : Nat} :
    (freed .full act qs start)[b]? = some (some p) ↔
      start[b]? = some (some p) ∧ act.getD p false = true ∧ (start.take b).count (some p) < qs.getD p 0 := by
  rw [freed, freeExcess_getElem?, freeInactive_getElem?, freeInactive_take, and_assoc]
  refine and_congr_right fun _ => and_congr_right fun hact => ?_
  rw [count_freeInactive hact, List.count_nil, Nat.zero_add]

/-! ### The largest deficit (R59) -/

/-- A position and its deficit: the best found so far, or one of the list that starts at position `i`. -/
def Candidate (ds : List (Option Int)) (i : Nat) (best : Option (Nat × Int)) (p : Nat) (d : Int) : Prop :=
  best = some (p, d) ∨ ∃ k, p = i + k ∧ ds[k]? = some (some d)

/-- The larger deficit, the lower position among equals. -/
def ServedBefore (p : Nat) (d : Int) (q : Nat) (e : Int) : Prop := e < d ∨ (e = d ∧ p ≤ q)

theorem candidate_nil {i p : Nat} {best : Option (Nat × Int)} {d : Int} : Candidate [] i best p d ↔ best = some (p, d) := by
  simp [Candidate]

theorem candidate_cons {c : Option Int} {t : List (Option Int)} {i p : Nat} {best : Option (Nat × Int)} {d : Int} :
    Candidate (c :: t) i best p d ↔ (best = some (p, d) ∨ (p = i ∧ c = some d)) ∨ ∃ k, p = i + 1 + k ∧ t[k]? = some (some d) := by
  rw [Candidate, or_assoc]
  refine or_congr_right ⟨?_, ?_⟩
  · rintro ⟨k, rfl, hk⟩
    cases k with
    | zero => exact .inl ⟨rfl, Option.some.inj hk⟩
    | succ k => exact .inr ⟨k, by omega, hk⟩
  · rintro (⟨rfl, rfl⟩ | ⟨k, rfl, hk⟩)
    · exact ⟨0, rfl, rfl⟩
    · exact ⟨k + 1, by omega, hk⟩

theorem candidate_cons_none {t : List (Option Int)} {i p : Nat} {best : Option (Nat × Int)} {d : Int} :
    Candidate (none :: t) i best p d ↔ Candidate t (i + 1) best p d := by
  rw [candidate_cons]; simp [Candidate]

theorem candidate_cons_first {c d : Int} {t : List (Option Int)} {i p : Nat} :
    Candidate (some c :: t) i none p d ↔ Candidate t (i + 1) (some (i, c)) p d := by
  rw [candidate_cons]; simp [Candidate, eq_comm]

theorem candidate_cons_taking_next {c d : Int} {t : List (Option Int)} {i p : Nat} {b : Nat × Int} :
    Candidate (some c :: t) i (some b) p d ↔ Candidate t (i + 1) (some (i, c)) p d ∨ b = (p, d) := by
  rw [candidate_cons]
  simp only [Candidate, Option.some.injEq, Prod.mk.injEq, eq_comm]
  rw [or_assoc, or_comm]

theorem candidate_cons_keeping_best {c d : Int} {t : List (Option Int)} {i p : Nat} {b : Nat × Int} :
    Candidate (some c :: t) i (some b) p d ↔ Candidate t (i + 1) (some b) p d ∨ (i, c) = (p, d) := by
  rw [candidate_cons]
  simp only [Candidate, Option.some.injEq, Prod.mk.injEq, eq_comm]
  exact or_right_comm

/-- `p` with deficit `d` is the candidate served before every other. -/
def ServedFirst (ds : List (Option Int)) (i : Nat) (best : Option (Nat × Int)) (p : Nat) (d : Int) : Prop :=
  Candidate ds i best p d ∧ ∀ q e, Candidate ds i best q e → ServedBefore p d q e

/-- Of the best so far and the next deficit, the one that is served after the other can be left out. -/
theorem servedFirst_of_better {ds t : List (Option Int)} {i p : Nat} {best : Option (Nat × Int)} {d : Int} {better other : Nat × Int}
    (hsplit : ∀ q e, Candidate ds i best q e ↔ Candidate t (i + 1) (some better) q e ∨ other = (q, e))
    (hbetter : ServedBefore better.1 better.2 other.1 other.2) (h : ServedFirst t (i + 1) (some better) p d) :
    ServedFirst ds i best p d := by
  obtain ⟨hfound, hfirst⟩ := h
  refine ⟨(hsplit p d).mpr (.inl hfound), fun q e hq => ?_⟩
  rcases (hsplit q e).mp hq with hq | rfl
  · exact hfirst q e hq
  · have := hfirst better.1 better.2 (.inl rfl)
    simp only [ServedBefore] at this hbetter ⊢
    omega

theorem largestDeficit_servedFirst {ds : List (Option Int)} {i p : Nat} {best : Option (Nat × Int)} {d : Int}
    (hbest : ∀ b, best = some b → b.1 < i) (h : largestDeficit ds i best = some (p, d)) : ServedFirst ds i best p d := by
  induction ds generalizing i best with
  | nil =>
    simp only [ServedFirst, candidate_nil]
    refine ⟨h, fun q e hq => ?_⟩
    cases Option.some.inj (h.symm.trans hq)
    exact .inr ⟨rfl, Nat.le_refl _⟩
  | cons c t ih =>
    have hnext {b : Nat × Int} (hb : b.1 ≤ i) (h : largestDeficit t (i + 1) (some b) = some (p, d)) :
        ServedFirst t (i + 1) (some b) p d := ih (by rintro _ ⟨⟩; exact Nat.lt_succ_of_le hb) h
    cases c with
    | none =>
      simpa only [ServedFirst, candidate_cons_none] using ih (fun b hb => (hbest b hb).trans (Nat.lt_succ_self i)) h
    | some c => cases best with
      | none => simpa only [ServedFirst, candidate_cons_first] using hnext (Nat.le_refl i) h
      | some b =>
        have hb := hbest b rfl
        simp only [largestDeficit] at h
        split at h
        next hlt => exact servedFirst_of_better (fun _ _ => candidate_cons_taking_next) (.inl hlt) (hnext (Nat.le_refl i) h)
        next hle =>
          refine servedFirst_of_better (fun _ _ => candidate_cons_keeping_best) ?_ (hnext hb.le h)
          simp only [ServedBefore]; omega

theorem candidate_start {ds : List (Option Int)} {p : Nat} {d : Int} : Candidate ds 0 none p d ↔ ds[p]? = some (some d) := by
  simp [Candidate]

theorem largestDeficit_eq_some {ds : List (Option Int)} {p : Nat} {d : Int} : largestDeficit ds 0 none = some (p, d) ↔
    ds[p]? = some (some d) ∧ ∀ q e, ds[q]? = some (some e) → ServedBefore p d q e := by
  have hspec {q : Nat} {e : Int} (h : largestDeficit ds 0 none = some (q, e)) := largestDeficit_servedFirst (by simp) h
  simp only [ServedFirst, candidate_start] at hspec
  refine ⟨hspec, fun ⟨hp, hfirst⟩ => ?_⟩
  obtain ⟨⟨q, e⟩, hlargest⟩ := Option.isSome_iff_exists.mp
    (largestDeficit_isSome (i := 0) (best := none) (.inr ⟨d, List.mem_of_getElem? hp⟩))
  obtain ⟨hq, hbefore⟩ := hspec hlargest
  have hpq := hfirst q e hq
  have hqp := hbefore p d hp
  simp only [ServedBefore] at hpq hqp
  rw [hlargest, show q = p by omega, show e = d by omega]

/-! ### Deficits and filling (R59) -/

theorem fillFree_free {ds : List (Option Int)} {p : Nat} {d : Int} (h : largestDeficit ds 0 none = some (p, d)) (rest : BucketMap) :
    fillFree ds (none :: rest) = some p :: fillFree (ds.set p (some (d - 1))) rest := by
  simp only [fillFree, h]

theorem deficits_getElem? {act : List Bool} {p : Nat} (hp : p < act.length) (qs : List Nat) (m : BucketMap) :
    (deficits act qs m)[p]? = some (if act.getD p false then some ((qs.getD p 0 : Int) - (m.count (some p) : Int)) else none) := by
  simp [deficits, hp]

/-! ### The placement -/

theorem activeSet_any {S : UplinkSet} {floor : Nat} {ms : List Member} :
    (activeSet S floor ms).any id = true ↔ someActive S floor ms := by
  simp [someActive, isActive, List.mem_iff_getElem?]

/-- A placement with a member active is the freeing and then the filling. -/
theorem place_eq_fillFree {S : UplinkSet} {floor : Nat} {ms : List Member} (h : someActive S floor ms) (kind : Kind) (start : BucketMap) :
    place kind ms floor start S =
      fillFree (deficits (activeSet S floor ms) (quotas (activeWeights S floor ms))
          (freed kind (activeSet S floor ms) (quotas (activeWeights S floor ms)) start))
        (freed kind (activeSet S floor ms) (quotas (activeWeights S floor ms)) start) :=
  if_pos (activeSet_any.mpr h)

theorem place_eq_noneMap {S : UplinkSet} {floor : Nat} {ms : List Member} (h : ¬ someActive S floor ms) (kind : Kind)
    (start : BucketMap) : place kind ms floor start S = noneMap := if_neg (mt activeSet_any.mp h)

/-- Settles O58: the freeing, the filling and the deficits, and the placement made of them. -/
theorem freeingAndFillingGoInOrder : Obligations.FreeingAndFillingGoInOrder := by
  refine ⟨?_, fun _ _ _ => ⟨rfl, rfl⟩, fun _ _ _ _ _ => ⟨freed_keep_getElem?, freed_full_getElem?⟩,
    fun _ _ _ => largestDeficit_eq_some, fun _ rest _ _ h => fillFree_free h rest, fun _ qs m _ hp => deficits_getElem? hp qs m⟩
  rintro kind ms floor start S h _ _ _ rfl rfl rfl
  exact place_eq_fillFree h kind start

end Sys2Proof.Proofs
end

section
/-! PROOFS. A filling whose deficits sum to the free buckets serves every member up to its quota and none beyond it (R59, R60). -/
namespace Sys2Proof.Proofs
open Sys2Proof.Machine Sys2Proof.Safety Sys2Proof.Claims

/-! ### What a filling leaves and whom it serves -/

section Filling
variable {ds : List (Option Int)} {m : BucketMap} {p : Nat}

/-- A bucket that is not free stays. -/
theorem fillFree_keeps {b : Nat} (h : m[b]? = some (some p)) : (fillFree ds m)[b]? = some (some p) := by
  induction m generalizing ds b with
  | nil => cases h
  | cons c t ih =>
    cases c with
    | some q => cases b with
      | zero => exact h
      | succ b => exact ih h
    | none => cases b with
      | zero => cases h
      | succ b =>
        simp only [fillFree]
        split
        · exact ih h
        · exact ih h

/-- The deficits after `q` is served. -/
theorem served_getElem? {q : Nat} {e d : Int} (hq : ds[q]? = some (some e)) (hp : ds[p]? = some (some d)) :
    (ds.set q (some (e - 1)))[p]? = some (some (d - if q = p then 1 else 0)) := by
  obtain ⟨hlt, -⟩ := List.getElem?_eq_some_iff.mp hq
  rw [List.getElem?_set]
  split
  next heq => subst heq; simp_all
  next => simp [hp]

theorem exists_deficit_of_served {q : Nat} {e d : Int} (hq : ds[q]? = some (some e)) (hp : (ds.set q (some (e - 1)))[p]? = some (some d)) :
    ∃ d, ds[p]? = some (some d) := by
  rw [List.getElem?_set] at hp
  split at hp
  next heq => exact ⟨e, heq ▸ hq⟩
  next => exact ⟨d, hp⟩

/-- A member that holds a bucket after a filling held it before or has a deficit. -/
theorem mem_fillFree (h : some p ∈ fillFree ds m) : some p ∈ m ∨ ∃ d, ds[p]? = some (some d) := by
  induction m generalizing ds with
  | nil => exact .inl h
  | cons c t ih =>
    cases c with
    | some q =>
      rcases List.mem_cons.mp h with heq | ht
      · exact .inl (heq ▸ List.mem_cons_self)
      · exact (ih ht).imp_left (List.mem_cons_of_mem _)
    | none =>
      simp only [fillFree] at h
      split at h
      next => exact (ih (by simpa using h)).imp_left (List.mem_cons_of_mem _)
      next q e hlargest =>
        have hq := (largestDeficit_eq_some.mp hlargest).1
        rcases List.mem_cons.mp h with heq | ht
        · cases heq; exact .inr ⟨e, hq⟩
        · exact (ih ht).imp (List.mem_cons_of_mem _) fun ⟨_, hd⟩ => exists_deficit_of_served hq hd

end Filling

/-! ### Deficits that sum to the free buckets -/

/-- The deficits added with their signs. -/
def deficitSum (ds : List (Option Int)) : Int := (ds.map fun d => d.getD 0).sum

/-- The deficits sum to the number of free buckets (R59). -/
def Balanced (ds : List (Option Int)) (m : BucketMap) : Prop := deficitSum ds = m.count none

section Sums
variable {ds : List (Option Int)} {m t : BucketMap} {p : Nat} {d : Int}

theorem mem_deficits (h : ds[p]? = some (some d)) : d ∈ ds.map fun d => d.getD 0 :=
  List.mem_map.mpr ⟨some d, List.mem_of_getElem? h, rfl⟩

theorem zero_or_deficit_of_mem {x : Int} (hx : x ∈ ds.map fun d => d.getD 0) : x = 0 ∨ ∃ p : Nat, ds[p]? = some (some x) := by
  obtain ⟨e, he, rfl⟩ := List.mem_map.mp hx
  cases e with
  | none => exact .inl rfl
  | some e => exact .inr (List.mem_iff_getElem?.mp he)

/-- With no deficit below 0 none is above the sum. -/
theorem deficit_le_deficitSum (hnonneg : ∀ (q : Nat) (e : Int), ds[q]? = some (some e) → 0 ≤ e) (hp : ds[p]? = some (some d)) :
    d ≤ deficitSum ds := by
  refine List.single_le_sum (fun x hx => ?_) d (mem_deficits hp)
  rcases zero_or_deficit_of_mem hx with rfl | ⟨q, hq⟩
  · exact le_refl _
  · exact hnonneg q x hq

theorem deficitSum_set (h : ds[p]? = some (some d)) (e : Int) : deficitSum (ds.set p (some e)) = deficitSum ds - d + e := by
  obtain ⟨hp, hget⟩ := List.getElem?_eq_some_iff.mp h
  have hlt : p < (ds.map fun d => d.getD 0).length := by simpa using hp
  rw [deficitSum, List.map_set, List.sum_set', dif_pos hlt, List.getElem_map, hget]
  simp only [deficitSum, Option.getD_some]
  omega

theorem exists_pos_of_deficitSum_pos (h : 0 < deficitSum ds) : ∃ (p : Nat) (d : Int), ds[p]? = some (some d) ∧ 0 < d := by
  by_contra hno
  refine absurd (List.sum_le_card_nsmul (ds.map fun d => d.getD 0) 0 fun x hx => ?_) (by simpa [deficitSum] using h)
  rcases zero_or_deficit_of_mem hx with rfl | ⟨q, hq⟩
  · exact le_refl _
  · exact not_lt.mp fun hpos => hno ⟨q, x, hq, hpos⟩

theorem balanced_cons_some {q : Nat} : Balanced ds (some q :: t) ↔ Balanced ds t := by simp [Balanced]

/-- While a bucket is free the largest deficit is 1 or more, and serving it keeps the balance. -/
theorem Balanced.serve (h : Balanced ds (none :: t)) : ∃ q e, fillFree ds (none :: t) = some q :: fillFree (ds.set q (some (e - 1))) t ∧
    ds[q]? = some (some e) ∧ 0 < e ∧ Balanced (ds.set q (some (e - 1))) t := by
  have hsum : deficitSum ds = t.count none + 1 := by simpa [Balanced] using h
  obtain ⟨p, d, hp, hpos⟩ := exists_pos_of_deficitSum_pos (ds := ds) (by omega)
  obtain ⟨⟨q, e⟩, hlargest⟩ := Option.isSome_iff_exists.mp
    (largestDeficit_isSome (i := 0) (best := none) (.inr ⟨d, List.mem_of_getElem? hp⟩))
  obtain ⟨hq, hfirst⟩ := largestDeficit_eq_some.mp hlargest
  have hde := hfirst p d hp
  refine ⟨q, e, fillFree_free hlargest t, hq, by simp only [ServedBefore] at hde; omega, ?_⟩
  rw [Balanced, deficitSum_set hq]
  omega

theorem count_some_cons (q p : Nat) (m : BucketMap) : (some q :: m).count (some p) = m.count (some p) + if q = p then 1 else 0 := by
  simp [List.count_cons]

/-- A member is given no more buckets than its deficit. -/
theorem count_fillFree_le (h : Balanced ds m) (hp : ds[p]? = some (some d)) :
    ((fillFree ds m).count (some p) : Int) ≤ m.count (some p) + max d 0 := by
  induction m generalizing ds d with
  | nil => simp [fillFree]
  | cons c t ih =>
    cases c with
    | some q =>
      have := ih (balanced_cons_some.mp h) hp
      simp only [fillFree, count_some_cons]
      omega
    | none =>
      obtain ⟨q, e, hfill, hq, hpos, hbalanced⟩ := h.serve
      have := ih hbalanced (served_getElem? hq hp)
      rw [hfill, count_some_cons, List.count_cons_of_ne (by simp)]
      split at this
      next heq =>
        subst heq
        cases hq.symm.trans hp
        simp only [if_true]
        omega
      next hne => simp only [if_neg hne]; omega

/-- Serving a deficit of 1 or more leaves none below 0. -/
theorem served_nonneg {q : Nat} {e : Int} (hnonneg : ∀ (r : Nat) (f : Int), ds[r]? = some (some f) → 0 ≤ f)
    (hpos : 0 < e) (r : Nat) (f : Int) (hr : (ds.set q (some (e - 1)))[r]? = some (some f)) : 0 ≤ f := by
  rw [List.getElem?_set] at hr
  split at hr
  next =>
    split at hr
    next => cases hr; omega
    next => cases hr
  next => exact hnonneg r f hr

/-- With no deficit below 0 every member is given its deficit. -/
theorem count_fillFree_eq (h : Balanced ds m) (hnonneg : ∀ (q : Nat) (e : Int), ds[q]? = some (some e) → 0 ≤ e)
    (hp : ds[p]? = some (some d)) :
    ((fillFree ds m).count (some p) : Int) = m.count (some p) + d := by
  induction m generalizing ds d with
  | nil =>
    have hle := deficit_le_deficitSum hnonneg hp
    have hzero : deficitSum ds = 0 := h
    have := hnonneg p d hp
    simp only [fillFree, List.count_nil]
    omega
  | cons c t ih =>
    cases c with
    | some q =>
      have := ih (balanced_cons_some.mp h) hnonneg hp
      simp only [fillFree, count_some_cons]
      omega
    | none =>
      obtain ⟨q, e, hfill, hq, hpos, hbalanced⟩ := h.serve
      have := ih hbalanced (served_nonneg hnonneg hpos) (served_getElem? hq hp)
      rw [hfill, count_some_cons, List.count_cons_of_ne (by simp)]
      split at this
      next heq => simp only [if_pos heq]; omega
      next hne => simp only [if_neg hne]; omega

/-- Only a member short of its quota is given a bucket. -/
theorem deficit_pos_of_given {b : Nat} (h : Balanced ds m) (hp : ds[p]? = some (some d)) (hgiven : (fillFree ds m)[b]? = some (some p))
    (hfree : m[b]? ≠ some (some p)) : 0 < d := by
  induction m generalizing ds d b with
  | nil => cases hgiven
  | cons c t ih =>
    cases c with
    | some q => cases b with
      | zero => exact absurd hgiven hfree
      | succ b => exact ih (balanced_cons_some.mp h) hp hgiven hfree
    | none =>
      obtain ⟨q, e, hfill, hq, hpos, hbalanced⟩ := h.serve
      rw [hfill] at hgiven
      cases b with
      | zero => cases hgiven; cases hq.symm.trans hp; exact hpos
      | succ b =>
        have := ih hbalanced (served_getElem? hq hp) hgiven hfree
        split at this <;> omega

end Sums

/-! ### The deficits of a map -/

/-- Every bucket is NONE or one of the buckets some member holds. -/
theorem sum_count_some {n : Nat} {m : BucketMap} (h : NamesBelow n m) :
    m.count none + ∑ p ∈ Finset.range n, m.count (some p) = m.length := by
  induction m with
  | nil => simp
  | cons b t ih =>
    have ht := ih fun p hp => h p (List.mem_cons_of_mem _ hp)
    cases b with
    | none => simp only [List.count_cons_self, List.length_cons, List.count_cons_of_ne (Option.some_ne_none _).symm]; omega
    | some q =>
      have hq : q < n := h q List.mem_cons_self
      simp only [count_some_cons, Finset.sum_add_distrib, Finset.sum_ite_eq, Finset.mem_range, hq, if_true, List.length_cons,
        List.count_cons_of_ne (Option.some_ne_none _)]
      omega

theorem deficits_eq_some {act : List Bool} {qs : List Nat} {m : BucketMap} {p : Nat} {d : Int} :
    (deficits act qs m)[p]? = some (some d) ↔ act.getD p false = true ∧ d = (qs.getD p 0 : Int) - (m.count (some p) : Int) := by
  by_cases hp : p < act.length
  · rw [deficits_getElem? hp]
    split
    next hact => simp only [Option.some.injEq, hact, true_and]; exact eq_comm
    next hact => simp only [Option.some.injEq, reduceCtorEq, hact, false_and]
  · simp [deficits, hp]

/-- The deficits of a map that names only active members sum to its free buckets. -/
theorem balanced_deficits {act : List Bool} {qs : List Nat} {m : BucketMap} (hlength : qs.length = act.length) (hsum : qs.sum = m.length)
    (hinactive : ∀ p, act.getD p false ≠ true → qs.getD p 0 = 0) (hnames : ∀ p, some p ∈ m → act.getD p false = true) :
    Balanced (deficits act qs m) m := by
  have hbelow : NamesBelow act.length m := fun p hp => by
    by_contra hlt
    have := hnames p hp
    rw [List.getD_eq_default act false (Nat.le_of_not_lt hlt)] at this
    cases this
  have hmap : (deficits act qs m).map (fun d => d.getD 0) =
      (List.range act.length).map fun p => (qs.getD p 0 : Int) - (m.count (some p) : Int) := by
    refine List.ext_getElem? fun p => ?_
    by_cases hp : p < act.length
    · rw [List.getElem?_map, deficits_getElem? hp, List.getElem?_map, List.getElem?_range hp]
      by_cases hact : act.getD p false = true
      · rw [if_pos hact]; rfl
      · have hnone : m.count (some p) = 0 := List.count_eq_zero.mpr (mt (hnames p) hact)
        rw [if_neg hact, Option.map_some, Option.map_some, hinactive p hact, hnone]; rfl
    · simp [deficits, hp]
  have hquotas : ∑ p ∈ Finset.range act.length, qs.getD p 0 = qs.sum := by
    rw [← hlength, Finset.sum_range, ← Fin.sum_univ_getElem]
    simp
  have hcounts := sum_count_some hbelow
  calc deficitSum (deficits act qs m)
      = ∑ p ∈ Finset.range act.length, ((qs.getD p 0 : Int) - (m.count (some p) : Int)) := by rw [deficitSum, hmap]; rfl
    _ = (qs.sum : Int) - ((∑ p ∈ Finset.range act.length, m.count (some p) : Nat) : Int) := by
        rw [Finset.sum_sub_distrib, ← hquotas]; push_cast; rfl
    _ = m.count none := by omega

end Sys2Proof.Proofs
end

section
/-! PROOFS. The active set, and how the placements end: the law for effective maps, quotas and kept buckets, idempotence, and the survivors
of a shrinking active set (O54 to O57). -/
namespace Sys2Proof.Proofs
open Sys2Proof.Machine Sys2Proof.Safety Sys2Proof.Claims

/-! ### The active set (R51 to R53) -/

theorem eligible_eq_canCarry (S : UplinkSet) (m : Member) : eligible S m = canCarry S m := by
  have hterm (t : Term) : termHolds S t = (S.getLsbD t.watched.val == decide (t.want = .inSet)) := by
    cases hwant : t.want <;> simp [termHolds, hwant]
  have hweight : (m.weight.val != 0) = decide (1 ≤ m.weight.val) := by
    rw [Bool.eq_iff_iff, bne_iff_ne, decide_eq_true_iff]; omega
  rw [eligible, canCarry, hweight, show termHolds S = _ from funext hterm]

/-- A member is put to use: it is eligible, and a primary or called by the floor. -/
def inUse (S : UplinkSet) (floor : Nat) (ms : List Member) (m : Member) : Bool :=
  eligible S m && (m.role == .primary || eligiblePrimaries S ms < floor)

theorem activeSet_eq_map (S : UplinkSet) (floor : Nat) (ms : List Member) : activeSet S floor ms = ms.map (inUse S floor ms) := rfl

theorem activeWeights_eq_map (S : UplinkSet) (floor : Nat) (ms : List Member) :
    activeWeights S floor ms = ms.map fun m => if inUse S floor ms m then m.weight.val else 0 := by
  rw [activeWeights, activeSet_eq_map, List.zipWith_map_right, List.zipWith_self]

@[simp] theorem activeWeights_length (S : UplinkSet) (floor : Nat) (ms : List Member) :
    (activeWeights S floor ms).length = ms.length := by
  simp [activeWeights_eq_map]

section Active
variable {S T : UplinkSet} {floor : Nat} {ms : List Member} {p : Nat}

theorem isActive_iff_inUse : isActive S floor ms p ↔ ∃ m, ms[p]? = some m ∧ inUse S floor ms m = true := by
  rw [isActive, activeSet_eq_map, List.getElem?_map, Option.map_eq_some_iff]

theorem isActive_iff_getD : isActive S floor ms p ↔ (activeSet S floor ms).getD p false = true := by
  rw [isActive, List.getD_eq_getElem?_getD]
  cases (activeSet S floor ms)[p]? <;> simp

theorem inUse_iff {m : Member} : inUse S floor ms m = true ↔ canCarry S m = true ∧
    (m.role = .primary ∨ (ms.filter fun n => canCarry S n && decide (n.role = .primary)).length < floor) := by
  rw [← List.countP_eq_length_filter]
  simp [inUse, eligiblePrimaries, eligible_eq_canCarry, Bool.beq_eq_decide_eq]

theorem isActive_iff : isActive S floor ms p ↔ ∃ m, ms[p]? = some m ∧ canCarry S m = true ∧
    (m.role = .primary ∨ (ms.filter fun n => canCarry S n && decide (n.role = .primary)).length < floor) := by
  simp only [isActive_iff_inUse, inUse_iff]

theorem activeWeights_of_active {m : Member} (hm : ms[p]? = some m) (h : isActive S floor ms p) :
    (activeWeights S floor ms)[p]? = some m.weight.val := by
  obtain ⟨m', hm', huse⟩ := isActive_iff_inUse.mp h
  cases hm.symm.trans hm'
  simp [activeWeights_eq_map, hm, huse]

theorem activeWeights_of_not_active {m : Member} (hm : ms[p]? = some m) (h : ¬ isActive S floor ms p) :
    (activeWeights S floor ms)[p]? = some 0 := by
  have huse : ¬ inUse S floor ms m = true := fun huse => h (isActive_iff_inUse.mpr ⟨m, hm, huse⟩)
  simp [activeWeights_eq_map, hm, huse]

theorem weight_pos_of_inUse {m : Member} (h : inUse S floor ms m = true) : 0 < m.weight.val := by
  have hcarry := (inUse_iff.mp h).1
  simp only [canCarry, Bool.and_eq_true, decide_eq_true_eq] at hcarry
  exact hcarry.1.1

theorem activeWeights_sum_pos (h : someActive S floor ms) : 0 < (activeWeights S floor ms).sum := by
  obtain ⟨p, hp⟩ := h
  obtain ⟨m, hm, huse⟩ := isActive_iff_inUse.mp hp
  exact (weight_pos_of_inUse huse).trans_le (List.le_sum_of_mem (List.mem_of_getElem? (activeWeights_of_active hm hp)))

theorem activeSet_congr (h : ∀ p, isActive S floor ms p ↔ isActive T floor ms p) : activeSet S floor ms = activeSet T floor ms := by
  refine List.ext_getElem (by simp) fun p hS hT => Bool.eq_iff_iff.mpr ?_
  simpa [isActive, List.getElem?_eq_getElem hS, List.getElem?_eq_getElem hT] using h p

/-! ### The quotas of the members -/

theorem quotaOf_of_not_active (h : ¬ isActive S floor ms p) : quotaOf S floor ms p = 0 := by
  rw [quotaOf, List.getD_eq_getElem?_getD]
  cases hm : ms[p]? with
  | none => rw [List.getElem?_eq_none (by simpa using hm)]; rfl
  | some m => rw [quotas_of_weight_zero (activeWeights_of_not_active hm h)]; rfl

/-- A quota is the base quota or 1 more (R55). -/
theorem quotaOf_bounds {m : Member} (hm : ms[p]? = some m) (h : isActive S floor ms p) :
    64 * m.weight.val / (activeWeights S floor ms).sum ≤ quotaOf S floor ms p ∧
      quotaOf S floor ms p ≤ 64 * m.weight.val / (activeWeights S floor ms).sum + 1 := by
  rw [quotaOf, List.getD_eq_getElem?_getD]
  rcases quotas_base_or_succ (activeWeights_of_active hm h) with hq | hq <;> rw [hq, Option.getD_some] <;> omega

theorem activeWeights_sum_le (h : ∀ p, isActive T floor ms p → isActive S floor ms p) :
    (activeWeights T floor ms).sum ≤ (activeWeights S floor ms).sum := by
  rw [activeWeights_eq_map, activeWeights_eq_map]
  refine List.sum_le_sum fun m hm => ?_
  obtain ⟨p, hp⟩ := List.mem_iff_getElem?.mp hm
  have hsub : inUse T floor ms m = true → inUse S floor ms m = true := fun huse => by
    obtain ⟨m', hm', huse'⟩ := isActive_iff_inUse.mp (h p (isActive_iff_inUse.mpr ⟨m, hp, huse⟩))
    cases hp.symm.trans hm'
    exact huse'
  split
  next huse => rw [if_pos (hsub huse)]
  next => exact Nat.zero_le _

/-- W does not rise when the active set shrinks, so a survivor's base quota does not fall (R65). -/
theorem quotaOf_le_succ (h : ∀ p, isActive T floor ms p → isActive S floor ms p) (hp : isActive T floor ms p) :
    quotaOf S floor ms p ≤ quotaOf T floor ms p + 1 := by
  obtain ⟨m, hm, -⟩ := isActive_iff_inUse.mp hp
  have hbase := Nat.div_le_div_left (a := 64 * m.weight.val) (activeWeights_sum_le h) (activeWeights_sum_pos ⟨p, hp⟩)
  have hT := quotaOf_bounds hm hp
  have hS := quotaOf_bounds hm (h p hp)
  omega

end Active

/-! ### A placement's freeing and its deficits -/

/-- The map between freeing and filling. -/
def keptBuckets (kind : Kind) (ms : List Member) (floor : Nat) (start : BucketMap) (S : UplinkSet) : BucketMap :=
  freed kind (activeSet S floor ms) (quotas (activeWeights S floor ms)) start

/-- What the active members are short of their quotas. -/
def shortfalls (ms : List Member) (floor : Nat) (m : BucketMap) (S : UplinkSet) : List (Option Int) :=
  deficits (activeSet S floor ms) (quotas (activeWeights S floor ms)) m

section Placement
variable {S T : UplinkSet} {floor : Nat} {ms : List Member} {start m : BucketMap} {kind : Kind} {b p : Nat}

theorem place_eq_fill (h : someActive S floor ms) (kind : Kind) (start : BucketMap) :
    place kind ms floor start S = fillFree (shortfalls ms floor (keptBuckets kind ms floor start S) S) (keptBuckets kind ms floor start S) :=
  place_eq_fillFree h kind start

theorem keptBuckets_length : (keptBuckets kind ms floor start S).length = start.length := freed_length ..

theorem kept_keep_iff : (keptBuckets .keep ms floor start S)[b]? = some (some p) ↔
    start[b]? = some (some p) ∧ isActive S floor ms p := by
  rw [isActive_iff_getD]; exact freed_keep_getElem?

theorem kept_full_iff : (keptBuckets .full ms floor start S)[b]? = some (some p) ↔
    start[b]? = some (some p) ∧ isActive S floor ms p ∧ (start.take b).count (some p) < quotaOf S floor ms p := by
  rw [isActive_iff_getD]; exact freed_full_getElem?

theorem kept_start_active (h : (keptBuckets kind ms floor start S)[b]? = some (some p)) :
    start[b]? = some (some p) ∧ isActive S floor ms p := by
  cases kind with
  | full =>
    obtain ⟨hstart, hactive, -⟩ := kept_full_iff.mp h
    exact ⟨hstart, hactive⟩
  | keep => exact kept_keep_iff.mp h

theorem active_of_mem_kept (h : some p ∈ keptBuckets kind ms floor start S) : isActive S floor ms p := by
  obtain ⟨b, hb⟩ := List.mem_iff_getElem?.mp h
  exact (kept_start_active hb).2

theorem shortfalls_eq_some {d : Int} : (shortfalls ms floor m S)[p]? = some (some d) ↔
    isActive S floor ms p ∧ d = (quotaOf S floor ms p : Int) - (m.count (some p) : Int) := by
  rw [isActive_iff_getD]; exact deficits_eq_some

theorem shortfall_of_active (hp : isActive S floor ms p) (m : BucketMap) :
    (shortfalls ms floor m S)[p]? = some (some ((quotaOf S floor ms p : Int) - (m.count (some p) : Int))) :=
  shortfalls_eq_some.mpr ⟨hp, rfl⟩

/-- The deficits sum to the free buckets, as the quotas sum to 64 (R59). -/
theorem balanced_kept (h : someActive S floor ms) (hstart : start.length = 64) :
    Balanced (shortfalls ms floor (keptBuckets kind ms floor start S) S) (keptBuckets kind ms floor start S) := by
  refine balanced_deficits (by simp) ?_ (fun p hp => ?_) fun p hp => isActive_iff_getD.mp (active_of_mem_kept hp)
  · rw [quotas_sum (activeWeights_sum_pos h), keptBuckets_length, hstart]
  · exact quotaOf_of_not_active (mt isActive_iff_getD.mp hp)

/-- A member keeps no more than its quota in the second step of freeing (R58). -/
theorem count_freeExcess_le (qs : List Nat) (before m : BucketMap) (p : Nat) :
    (freeExcess qs before m).count (some p) ≤ qs.getD p 0 - before.count (some p) := by
  induction m generalizing before with
  | nil => simp [freeExcess]
  | cons c t ih =>
    cases c with
    | none => rw [freeExcess, List.count_cons_of_ne (by simp)]; exact ih before
    | some q =>
      have ht := ih (some q :: before)
      rw [count_some_cons] at ht
      rw [freeExcess]
      split
      next hlt =>
        rw [count_some_cons]
        split at ht
        next heq => subst heq; simp only [if_true]; omega
        next hne => simp only [if_neg hne]; omega
      next => rw [List.count_cons_of_ne (by simp)]; omega

theorem count_kept_full_le (p : Nat) : (keptBuckets .full ms floor start S).count (some p) ≤ quotaOf S floor ms p := by
  simpa [keptBuckets, freed, quotaOf] using
    count_freeExcess_le (quotas (activeWeights S floor ms)) [] (freeInactive (activeSet S floor ms) start) p

/-! ### How a placement ends (R59, R60) -/

theorem place_keeps (h : someActive S floor ms) (hkept : (keptBuckets kind ms floor start S)[b]? = some (some p)) :
    (place kind ms floor start S)[b]? = some (some p) := by
  rw [place_eq_fill h]; exact fillFree_keeps hkept

theorem active_of_mem_place (h : someActive S floor ms) (hp : some p ∈ place kind ms floor start S) : isActive S floor ms p := by
  rw [place_eq_fill h] at hp
  rcases mem_fillFree hp with hkept | ⟨d, hd⟩
  · exact active_of_mem_kept hkept
  · exact (shortfalls_eq_some.mp hd).1

/-- The law for effective maps (R59). -/
theorem place_names_active (h : someActive S floor ms) : ∀ c ∈ place kind ms floor start S, ∃ p, c = some p ∧ isActive S floor ms p := by
  intro c hc
  have hfilled := fillFree_names (m := keptBuckets kind ms floor start S)
    (by rw [deficits_length]; exact namesBelow_freed _ _ _ _)
    (exists_deficit (activeSet_any.mpr h) (quotas (activeWeights S floor ms)) (keptBuckets kind ms floor start S))
  obtain ⟨p, -, rfl⟩ := hfilled c (place_eq_fill h kind start ▸ hc)
  exact ⟨p, rfl, active_of_mem_place h hc⟩

theorem none_notMem_place (h : someActive S floor ms) : none ∉ place kind ms floor start S := fun hnone => by
  obtain ⟨p, hp, -⟩ := place_names_active h none hnone
  cases hp

/-- A placement whose freeing leaves no member above its quota ends with every member at its quota. -/
theorem count_place_of_le (h : someActive S floor ms) (hstart : start.length = 64)
    (hle : ∀ q, isActive S floor ms q → (keptBuckets kind ms floor start S).count (some q) ≤ quotaOf S floor ms q) (p : Nat) :
    (place kind ms floor start S).count (some p) = quotaOf S floor ms p := by
  by_cases hp : isActive S floor ms p
  · have hend := count_fillFree_eq (balanced_kept (kind := kind) h hstart) (fun q e hq => ?_) (shortfall_of_active hp _)
    · rw [place_eq_fill h]; omega
    · obtain ⟨hactive, rfl⟩ := shortfalls_eq_some.mp hq
      have := hle q hactive
      omega
  · rw [quotaOf_of_not_active hp]
    exact List.count_eq_zero.mpr fun hmem => hp (active_of_mem_place h hmem)

theorem count_place_full (h : someActive S floor ms) (hstart : start.length = 64) (p : Nat) :
    (place .full ms floor start S).count (some p) = quotaOf S floor ms p :=
  count_place_of_le h hstart (fun q _ => count_kept_full_le q) p

/-- A member that is given a bucket ends at its quota or below. -/
theorem count_place_le_of_given (h : someActive S floor ms) (hstart : start.length = 64)
    (hgiven : (place kind ms floor start S)[b]? = some (some p)) (hfree : (keptBuckets kind ms floor start S)[b]? ≠ some (some p)) :
    (place kind ms floor start S).count (some p) ≤ quotaOf S floor ms p := by
  have hp : isActive S floor ms p := active_of_mem_place h (List.mem_of_getElem? hgiven)
  have hbalanced := balanced_kept (kind := kind) h hstart
  have hdeficit := shortfall_of_active hp (keptBuckets kind ms floor start S)
  rw [place_eq_fill h] at hgiven ⊢
  have hpos := deficit_pos_of_given hbalanced hdeficit hgiven hfree
  have hend := count_fillFree_le hbalanced hdeficit
  omega

/-! ### Maps that a placement does not change -/

/-- A map with no free bucket, whose buckets another map of the same length all keeps, is that map. -/
theorem eq_of_keeps {m' : BucketMap} (hlength : m'.length = m.length) (hfilled : none ∉ m)
    (hkeeps : ∀ b p : Nat, m[b]? = some (some p) → m'[b]? = some (some p)) : m' = m := by
  refine List.ext_getElem? fun b => ?_
  cases hb : m[b]? with
  | none => rw [List.getElem?_eq_none_iff, hlength]; exact List.getElem?_eq_none_iff.mp hb
  | some c =>
    cases c with
    | none => exact absurd (List.mem_of_getElem? hb) hfilled
    | some p => exact hkeeps b p hb

theorem count_take_lt {α : Type} [BEq α] [LawfulBEq α] {l : List α} {a : α} {b : Nat} (h : l[b]? = some a) :
    (l.take b).count a < l.count a := by
  obtain ⟨hb, rfl⟩ := List.getElem?_eq_some_iff.mp h
  have hsplit : l.count l[b] = (l.take b).count l[b] + (l.drop b).count l[b] := by
    rw [← List.count_append, List.take_append_drop]
  rw [hsplit, List.drop_eq_getElem_cons hb, List.count_cons_self]
  omega

theorem place_congr (h : activeSet S floor ms = activeSet T floor ms) (kind : Kind) (start : BucketMap) :
    place kind ms floor start S = place kind ms floor start T := by
  simp only [place, activeWeights, h]

/-- A placement keeps every bucket of a map that a placement of its kind or a full one made. -/
theorem kept_place_again {again : Kind} (h : someActive S floor ms) (hstart : start.length = 64) (hagain : again = kind ∨ again = .keep)
    (hb : (place kind ms floor start S)[b]? = some (some p)) :
    (keptBuckets again ms floor (place kind ms floor start S) S)[b]? = some (some p) := by
  have hp := active_of_mem_place h (List.mem_of_getElem? hb)
  cases again with
  | keep => exact kept_keep_iff.mpr ⟨hb, hp⟩
  | full =>
    obtain rfl : kind = .full := hagain.elim Eq.symm (nomatch ·)
    exact kept_full_iff.mpr ⟨hb, hp, count_place_full h hstart p ▸ count_take_lt hb⟩

theorem place_place {again : Kind} (hstart : start.length = 64) (hagain : again = kind ∨ again = .keep) :
    place again ms floor (place kind ms floor start S) S = place kind ms floor start S := by
  by_cases h : someActive S floor ms
  · have hlength : (place kind ms floor start S).length = 64 := place_length hstart
    exact eq_of_keeps ((place_length hlength).trans hlength.symm) (none_notMem_place h)
      fun b p hb => place_keeps h (kept_place_again h hstart hagain hb)
  · rw [place_eq_noneMap h, place_eq_noneMap h]

/-! ### The survivors of a shrinking active set (R65) -/

/-- When a member holds at most 1 bucket more than its quota, at most one of its buckets has its quota of them below it. -/
theorem excess_bucket_unique {n b' : Nat} (hcount : m.count (some p) ≤ n + 1) (hb : m[b]? = some (some p))
    (hb' : m[b']? = some (some p)) (hn : n ≤ (m.take b).count (some p)) : ¬ b < b' := fun hlt => by
  have hbelow : ((m.take b').take b).count (some p) < (m.take b').count (some p) :=
    count_take_lt (by rw [List.getElem?_take_of_lt hlt]; exact hb)
  rw [List.take_take, Nat.min_eq_left hlt.le] at hbelow
  have := count_take_lt hb'
  omega

/-- A full placement takes at most one bucket of a member that holds at most 1 more than its quota. -/
theorem lost_le_one (h : isActive T floor ms p) (hcount : m.count (some p) ≤ quotaOf T floor ms p + 1) :
    ((List.range 64).filter fun b => m[b]? = some (some p) ∧ (place .full ms floor m T)[b]? ≠ some (some p)).length ≤ 1 := by
  have hlost {b : Nat} (hb : m[b]? = some (some p)) (hgone : (place .full ms floor m T)[b]? ≠ some (some p)) :
      quotaOf T floor ms p ≤ (m.take b).count (some p) :=
    not_lt.mp fun hlt => hgone (place_keeps ⟨p, h⟩ (kept_full_iff.mpr ⟨hb, h, hlt⟩))
  rw [← List.toFinset_card_of_nodup (List.nodup_range.filter _), Finset.card_le_one]
  intro b hb b' hb'
  simp only [List.mem_toFinset, List.mem_filter, decide_eq_true_eq] at hb hb'
  obtain ⟨-, hheld, hgone⟩ := hb
  obtain ⟨-, hheld', hgone'⟩ := hb'
  exact le_antisymm (not_lt.mp (excess_bucket_unique hcount hheld' hheld (hlost hheld' hgone')))
    (not_lt.mp (excess_bucket_unique hcount hheld hheld' (hlost hheld hgone)))

end Placement

/-! ### The statements -/

/-- Settles O54: the law for effective maps and the members of the active set. -/
theorem everyBucketNamesAnActiveMember : Obligations.EveryBucketNamesAnActiveMember := fun _ _ _ _ _ hstart =>
  ⟨place_length hstart, place_names_active, fun h => place_eq_noneMap h .., fun _ => isActive_iff⟩

/-- Settles O55: a full placement ends at quota, a keep placement keeps, and ends at quota from an empty map. -/
theorem placementsEndAtQuotaOrKeep : Obligations.PlacementsEndAtQuotaOrKeep := by
  refine ⟨fun ms floor S => ⟨activeWeights_length S floor ms, fun p m hm =>
      ⟨activeWeights_of_active hm, activeWeights_of_not_active hm⟩⟩, fun ms floor start S hstart h =>
    ⟨fun p _ => count_place_full h hstart p, fun b p hb hp => place_keeps h (kept_keep_iff.mpr ⟨hb, hp⟩),
      fun b p hgiven hnew => count_place_le_of_given h hstart hgiven fun hkept => hnew (kept_start_active hkept).1,
      fun hnone p _ => count_place_of_le h hstart (fun q _ => ?_) p⟩⟩
  have hempty : some q ∉ keptBuckets .keep ms floor start S := fun hq => by
    obtain ⟨b, hb⟩ := List.mem_iff_getElem?.mp hq
    cases hnone _ (List.mem_of_getElem? (kept_start_active hb).1)
  rw [List.count_eq_zero.mpr hempty]
  exact Nat.zero_le _

/-- Settles O56: the second placement frees no bucket. -/
theorem placementIsIdempotent : Obligations.PlacementIsIdempotent := by
  intro kind again ms floor start S T hstart hsame hagain
  rw [← place_congr (activeSet_congr hsame) again, place_place hstart hagain]

/-- Settles O57: a survivor held its old quota, at most 1 above its new one. -/
theorem shrinkingDisturbsAtMostOneBucket : Obligations.ShrinkingDisturbsAtMostOneBucket := by
  rintro ms floor start S T hstart hsub _ rfl p hp
  have hheld := count_place_full ⟨p, hsub p hp⟩ hstart p
  exact ⟨lost_le_one hp (hheld.trans_le (quotaOf_le_succ hsub hp)),
    fun b hb => place_keeps ⟨p, hp⟩ (kept_keep_iff.mpr ⟨hb, hp⟩)⟩

end Sys2Proof.Proofs
end

section
/-! PROOFS. The Barrier's test, and the job an engine takes when a job ends (O36). -/
namespace Sys2Proof.Proofs
open Sys2Proof.Machine Sys2Proof.Safety Sys2Proof.Claims

/-! ### What a Barrier waits for (R152, R153) -/

theorem getLsbD_waitingUplinks (j : WaitingJob) (u : Fin 32) : j.uplinks.getLsbD u.val = true ↔ j = .uplink u := by
  cases j with
  | uplink v => rw [WaitingJob.uplinks, getLsbD_only, beq_iff_eq, WaitingJob.uplink.injEq, eq_comm]
  | sweep => simp [WaitingJob.uplinks]

theorem getLsbD_runningUplinks (j : RunningJob) (u : Fin 32) : j.uplinks.getLsbD u.val = true ↔ ∃ c, j = .uplink u c := by
  cases j with
  | uplink v c =>
    rw [RunningJob.uplinks, getLsbD_only, beq_iff_eq, eq_comm]
    simp only [RunningJob.uplink.injEq, exists_and_left, exists_eq', and_true]
  | sweep => simp [RunningJob.uplinks]

/-- The uplinks of a queue, gathered on top of a set. -/
theorem getLsbD_foldl_uplinks (q : List WaitingJob) (m : UplinkSet) (u : Fin 32) :
    (q.foldl (fun m j => m ||| j.uplinks) m).getLsbD u.val = true ↔ .uplink u ∈ q ∨ m.getLsbD u.val = true := by
  induction q generalizing m with
  | nil => simp
  | cons j q ih =>
    rw [List.foldl_cons, ih, BitVec.getLsbD_or, Bool.or_eq_true, getLsbD_waitingUplinks, List.mem_cons, eq_comm (b := j)]
    tauto

theorem getLsbD_walkUplinks (s : State) (u : Fin 32) : s.walk.uplinks.getLsbD u.val = true ↔ jobFor s u := by
  rw [Walk.uplinks, getLsbD_foldl_uplinks, jobFor]
  refine or_congr_right ?_
  cases s.walk.job with
  | none => simp
  | some j => simp only [getLsbD_runningUplinks, Option.some.injEq]

theorem isSweep_iff (j : WaitingJob) : j.isSweep = true ↔ ∃ f c, j = .sweep f c := by cases j <;> simp [WaitingJob.isSweep]

theorem walkSweeping_iff (s : State) : s.walk.sweeping = true ↔ sweepBusy s := by
  have hqueue : s.walk.queue.any WaitingJob.isSweep = true ↔ ∃ f c, .sweep f c ∈ s.walk.queue := by
    simp only [List.any_eq_true, isSweep_iff]
    exact ⟨fun ⟨_, hj, f, c, h⟩ => ⟨f, c, h ▸ hj⟩, fun ⟨f, c, hj⟩ => ⟨_, hj, f, c, rfl⟩⟩
  rw [Walk.sweeping, Bool.or_eq_true, hqueue, sweepBusy]
  refine or_congr_right ?_
  rcases s.walk.job with _ | _ | _ <;> simp

theorem noRetracts_iff (s : State) :
    (s.lp0.retracts.isEmpty && s.lp1.retracts.isEmpty) = true ↔ s.lp0.retracts = [] ∧ s.lp1.retracts = [] := by
  rw [Bool.and_eq_true, List.isEmpty_iff, List.isEmpty_iff]

/-- Two sets of uplinks with no uplink in common. -/
theorem inter_eq_empty_iff (a b : UplinkSet) :
    a &&& b = 0#32 ↔ ∀ u : Fin 32, a.getLsbD u.val = true → ¬ b.getLsbD u.val = true := by
  constructor
  · intro h u ha hb
    have hbit := congrArg (fun c : UplinkSet => c.getLsbD u.val) h
    simp only [BitVec.getLsbD_and, ha, hb, BitVec.getLsbD_zero] at hbit
    cases hbit
  · intro h
    refine BitVec.eq_of_getLsbD_eq fun n hn => ?_
    have hbit := h ⟨n, hn⟩
    rw [BitVec.getLsbD_and, BitVec.getLsbD_zero]
    cases ha : a.getLsbD n
    · rfl
    · simpa using hbit ha

/-- The test holds exactly when nothing it asks for is outstanding. -/
theorem barrierHolds_iff (b : BarrierTest) (s : State) : barrierHolds b s = true ↔ testHolds b s := by
  have hsweeps : (b.sweeps && s.walk.sweeping) = false ↔ (b.sweeps = true → ¬ sweepBusy s) := by
    rw [← walkSweeping_iff]; cases b.sweeps <;> simp
  have hretracts : (b.retracts && !(s.lp0.retracts.isEmpty && s.lp1.retracts.isEmpty)) = false ↔
      (b.retracts = true → s.lp0.retracts = [] ∧ s.lp1.retracts = []) := by
    rw [← noRetracts_iff]; cases b.retracts <;> simp
  simp only [barrierHolds, barrierOutstanding, beq_iff_eq, Prod.mk.injEq, hsweeps, hretracts, inter_eq_empty_iff,
    getLsbD_walkUplinks, testHolds]

/-! ### The check of a waiting Barrier -/

/-- A Barrier whose test holds is answered with nothing outstanding. -/
theorem barrierReply_ok {b : BarrierTest} {s : State} (h : barrierHolds b s = true) :
    barrierReply .ok b s = replied .ok [0#8, 0#8, 0#8, 0#8, 0#8] { s with mgmt := { s.mgmt with barrierTimer := .stopped } } := by
  have hnone : barrierOutstanding b s = (0#32, false, false) := by simpa [barrierHolds] using h
  rw [barrierReply, hnone]
  rfl

theorem barrierCheck_waiting {b : BarrierTest} {s : State} (h : s.mgmt.iface = .serving (.barrier b)) :
    barrierCheck s = if barrierHolds b s then barrierReply .ok b s else s := by
  rw [barrierCheck, h]

theorem barrierCheck_no_barrier {s : State} (h : ∀ b, s.mgmt.iface ≠ .serving (.barrier b)) : barrierCheck s = s := by
  rcases barrierCheck_cases s with ⟨b, hb, -, -⟩ | ⟨-, hsame⟩
  · exact absurd hb (h b)
  · exact hsame

/-! ### The job an engine takes (R71, R72, R85) -/

theorem startFrom_uplink_cons {chains : Vector (List Nat) 32} {u : Fin 32} {g : Nat} {tail : List Nat} (q : List WaitingJob)
    (h : chains[u] = g :: tail) : startFrom chains (.uplink u :: q) = (some (.uplink u (some g)), q) := by
  simp only [startFrom, h, List.head?_cons]

theorem startFrom_uplink_nil {chains : Vector (List Nat) 32} {u : Fin 32} (q : List WaitingJob) (h : chains[u] = []) :
    startFrom chains (.uplink u :: q) = startFrom chains q := by
  simp only [startFrom, h, List.head?_nil]

/-- An engine that finds a job is WALKING, and no flag is set. -/
theorem takeNextJob_started {s : State} {job : RunningJob} {rest : List WaitingJob}
    (h : startFrom s.table.chains s.walk.queue = (some job, rest)) :
    takeNextJob s = barrierCheck { s with walk := { queue := rest, job := some job } } := by
  rw [takeNextJob, h]
  rfl

theorem takeNextJob_idle {s : State} (h : s.walk = { queue := [], job := none }) :
    takeNextJob s = barrierCheck (flagged 0x20#8 s) := by
  have hself : { s with walk := { queue := [], job := none } } = s := by rw [← h]
  have hstart : startFrom s.table.chains s.walk.queue = (none, []) := by rw [h]; rfl
  rw [takeNextJob, hstart]
  exact congrArg (fun t => barrierCheck (flagged 0x20#8 t)) hself

/-- Engines that find the same job with the same rest of the queue take it alike. -/
theorem takeNextJob_congr {s : State} {w : Walk}
    (h : startFrom s.table.chains s.walk.queue = startFrom s.table.chains w.queue) :
    takeNextJob s = takeNextJob { s with walk := w } := by
  rw [takeNextJob, takeNextJob, h]

/-- Settles O36: by the head of the queue, and by whether the Barrier's test holds. -/
theorem endedJobsMakeWayForTheNext : Obligations.EndedJobsMakeWayForTheNext := by
  refine ⟨fun q s hwalk => ⟨?_, ?_, ?_, ?_⟩, fun s => ⟨fun b hb => ⟨fun hholds => ?_, fun hfails => ?_⟩, barrierCheck_no_barrier⟩⟩
  · rintro rfl
    exact takeNextJob_idle hwalk
  · rintro f c rest rfl
    exact takeNextJob_started (by rw [hwalk, startFrom])
  · rintro u rest g tail rfl hchain
    exact takeNextJob_started (by rw [hwalk, startFrom_uplink_cons rest hchain])
  · rintro u rest rfl hchain
    exact takeNextJob_congr (by rw [hwalk, startFrom_uplink_nil rest hchain])
  · have htest := (barrierHolds_iff b s).mpr hholds
    rw [barrierCheck_waiting hb, if_pos htest, barrierReply_ok htest]
  · rw [barrierCheck_waiting hb, if_neg (mt (barrierHolds_iff b s).mp hfails)]

end Sys2Proof.Proofs
end

section
/-! PROOFS. The steps of the Walk Engine: Rebalance Range, and the granted accesses of the job in progress (O33 to O35). -/
namespace Sys2Proof.Proofs
open Sys2Proof.Machine Sys2Proof.Safety Sys2Proof.Claims

/-! ### Rebalance Range (R70) -/

theorem decodeRange_encode {first count : Nat} (hfirst : first < 65536) (hcount : count < 65536) :
    decodeRange (bytes16 (BitVec.ofNat 16 first) ++ bytes16 (BitVec.ofNat 16 count)) = some (first, count) := by
  simp only [bytes16, List.cons_append, List.nil_append, decodeRange, be16_bytes, BitVec.toNat_ofNat, Nat.mod_eq_of_lt hfirst,
    Nat.mod_eq_of_lt hcount]

theorem rangeRefused_iff (first count : Nat) : rangeRefused first count = true ↔ count = 0 ∨ 4096 < first + count := by
  rw [rangeRefused, Bool.or_eq_true, beq_iff_eq, decide_eq_true_iff]
  rfl

/-- A Rebalance Range frame, taken while the interface listens. -/
theorem exec_rebalanceRange {first count : Nat} {s : State} (hfirst : first < 65536) (hcount : count < 65536) (hl : Listens s) :
    exec (.rebalanceRange (encodeRange first count)) s =
      .next (if s.table.ready then rebalance first count (fed 6 s) else replied .notReady [] (fed 6 s)) := by
  have hlen : (bytes16 (BitVec.ofNat 16 first) ++ bytes16 (BitVec.ofNat 16 count)).length = 4 := rfl
  simp only [exec, execRebalanceRange, unlessReset_runs hl.1, encodeRange]
  rw [takeRequest_frame _ (by rw [hlen]; decide) (decodeRange_encode hfirst hcount) hl]
  rfl

/-- An engine with a job in progress takes none. -/
theorem startIfIdle_walking {s : State} (h : s.walk.job ≠ none) : startIfIdle s = s := by
  rcases startIfIdle_cases s with ⟨hidle, -, -⟩ | ⟨-, hsame⟩
  · exact absurd hidle h
  · exact hsame

/-- An idle engine takes a lone sweep job at its first group; with no Barrier waiting that is all. -/
theorem startIfIdle_sweep {s : State} {first count : Nat} (hwalk : s.walk = { queue := [.sweep first count], job := none })
    (hiface : ∀ b, s.mgmt.iface ≠ .serving (.barrier b)) :
    startIfIdle s = { s with walk := { queue := [], job := some (.sweep first count first) } } := by
  rcases startIfIdle_cases s with ⟨-, -, hstart⟩ | ⟨hkept, -⟩
  · rw [hstart, takeNextJob_started (by rw [hwalk, startFrom])]
    exact barrierCheck_no_barrier hiface
  · simp [hwalk] at hkept

section Rebalance
variable {first count : Nat} {s : State}

theorem rebalance_refused (h : rangeRefused first count = true) : rebalance first count s = replied .range [] s := if_pos h

theorem rebalance_busy (hrange : ¬ rangeRefused first count = true) (hfull : 8 ≤ sweepsWaiting s.walk.queue) :
    rebalance first count s = replied .busy [] s := by
  rw [rebalance, if_neg hrange]
  exact if_pos hfull

theorem rebalance_queued (hrange : ¬ rangeRefused first count = true) (hroom : sweepsWaiting s.walk.queue < 8) :
    rebalance first count s =
      replied .ok [] (startIfIdle { s with walk := { s.walk with queue := s.walk.queue ++ [.sweep first count] } }) := by
  rw [rebalance, if_neg hrange]
  exact if_neg (Nat.not_le.mpr hroom)

theorem rebalance_walking (hrange : ¬ rangeRefused first count = true) (hroom : sweepsWaiting s.walk.queue < 8)
    (hjob : s.walk.job ≠ none) : rebalance first count s =
      replied .ok [] { s with walk := { s.walk with queue := s.walk.queue ++ [.sweep first count] } } := by
  rw [rebalance_queued hrange hroom]
  exact congrArg (replied .ok []) (startIfIdle_walking hjob)

theorem rebalance_idle (hrange : ¬ rangeRefused first count = true) (hwalk : s.walk = { queue := [], job := none })
    (hiface : ∀ b, s.mgmt.iface ≠ .serving (.barrier b)) : rebalance first count s =
      replied .ok [] { s with walk := { queue := [], job := some (.sweep first count first) } } := by
  rw [rebalance_queued hrange (by rw [hwalk]; decide), hwalk]
  exact congrArg (replied .ok []) (startIfIdle_sweep rfl hiface)

end Rebalance

/-- Settles O33: the frame is served or refused, and then by the range, the room for a sweep job and the job in progress. -/
theorem rebalanceRangeQueuesASweep : Obligations.RebalanceRangeQueuesASweep := by
  intro first count s hfirst hcount hl
  rw [exec_rebalanceRange hfirst hcount hl]
  refine ⟨fun hinit => by simp [hinit], fun hready hrange => ?_, fun hready hpos hend waiting hwaiting => ?_⟩
  · rw [if_pos hready, rebalance_refused ((rangeRefused_iff ..).mpr hrange)]
  · have hrange : ¬ rangeRefused first count = true := mt (rangeRefused_iff ..).mp (by omega)
    have hsweeps : waiting = sweepsWaiting (fed 6 s).walk.queue := hwaiting.trans List.countP_eq_length_filter.symm
    rw [if_pos hready]
    refine ⟨fun hfull => ?_, fun hroom hjob => ?_, fun hjob hqueue => ?_⟩
    · rw [rebalance_busy hrange (hsweeps ▸ hfull)]
    · exact congrArg Host.Outcome.next (rebalance_walking hrange (hsweeps ▸ hroom) hjob)
    · have hwalk : (fed 6 s).walk = { queue := [], job := none } := by rw [← hqueue, ← hjob]; rfl
      rw [rebalance_idle hrange hwalk fun b => by simp [fed, hl.2.2]]

/-! ### The access of the job in progress (R42, R73, R74, R80) -/

section Granted
variable {s : State} (hrun : Runs s) (hgrant : s.grantee = some .walk)
include hrun hgrant

theorem exec_uplinkJobVisit_granted {u : Fin 32} {g : Nat} (h : s.walk.job = some (.uplink u (some g))) :
    exec .uplinkJobVisit s = .next (uplinkVisit u g (granted .walk s)) := by
  simp only [exec, execUplinkJobVisit, unlessReset_runs hrun, h, access_granted hgrant]

theorem exec_closingAccess_granted {u : Fin 32} (h : s.walk.job = some (.uplink u none)) :
    exec .closingAccess s = .next (endJob (granted .walk s)) := by
  simp only [exec, execClosingAccess, unlessReset_runs hrun, h, access_granted hgrant]

theorem exec_sweepVisit_granted {first count next : Nat} (h : s.walk.job = some (.sweep first count next)) :
    exec .sweepVisit s = .next (sweepJobVisit first count next (granted .walk s)) := by
  simp only [exec, execSweepVisit, unlessReset_runs hrun, h, access_granted hgrant]

end Granted

/-! ### A visit's write and its count (R73, R80, R86) -/

/-- A write that differs is made under the next generation and reported; an equal map writes nothing. -/
theorem persist_eq_ite (g : Nat) (map : BucketMap) (s : State) : persist g map s =
    if map = (s.group g).map then s
    else reportChange g (nextGen (s.group g).gen) (s.setGroup g { s.group g with map := map, gen := nextGen (s.group g).gen }) := rfl

/-- The placement of a visit: with keep in HOLD, in full in REVERT (R73). -/
theorem effectiveMap_eq (r : Group) (S : UplinkSet) :
    r.effectiveMap S = place (if r.mode = .hold then .keep else .full) r.members r.floor r.map S := by
  cases h : r.mode <;> simp [Group.effectiveMap, kindOfMode, h]

/-- A sweep visit up to its count: only an ACTIVE group is placed (R80). -/
def sweepWrite (g : Nat) (s : State) : State :=
  if (s.group g).state = .active then persist g (sweepMap (s.group g) s.settled) s else s

@[simp] theorem sweepWrite_walk (g : Nat) (s : State) : (sweepWrite g s).walk = s.walk := by
  unfold sweepWrite; split <;> simp
@[simp] theorem sweepWrite_mgmt (g : Nat) (s : State) : (sweepWrite g s).mgmt = s.mgmt := by
  unfold sweepWrite; split <;> simp

theorem sweepWrite_eq_ite (g : Nat) (s : State) : sweepWrite g s =
    if (s.group g).state ≠ .active ∨ place .full (s.group g).members (s.group g).floor (s.group g).map s.settled = (s.group g).map
    then s
    else reportChange g (nextGen (s.group g).gen) (s.setGroup g
      { s.group g with map := place .full (s.group g).members (s.group g).floor (s.group g).map s.settled
                       gen := nextGen (s.group g).gen }) := by
  by_cases hactive : (s.group g).state = .active
  · rw [sweepWrite, if_pos hactive, sweepMap, persist_eq_ite]
    simp only [hactive, ne_eq, not_true_eq_false, false_or]
  · rw [sweepWrite, if_neg hactive, if_pos (.inl hactive)]

/-! ### The cursor after a visit -/

theorem uplinkVisit_advances {u : Fin 32} {g h : Nat} {s : State} (hnext : successor g s.table.chains[u] = some h) :
    uplinkVisit u g s = { countVisit (persist g ((s.group g).effectiveMap s.settled) s) with
      walk := { s.walk with job := some (.uplink u (some h)) } } := by
  simp only [uplinkVisit, hnext, countVisit_walk, persist_walk]

theorem uplinkVisit_ends {u : Fin 32} {g : Nat} {s : State} (hend : successor g s.table.chains[u] = none) :
    uplinkVisit u g s = takeNextJob { countVisit (persist g ((s.group g).effectiveMap s.settled) s) with
      walk := { s.walk with job := none } } := by
  simp only [uplinkVisit, hend, endJob, countVisit_walk, persist_walk]

theorem sweepJobVisit_advances {first count next : Nat} {s : State} (h : next + 1 < first + count) :
    sweepJobVisit first count next s = { countVisit (sweepWrite next s) with
      walk := { s.walk with job := some (.sweep first count (next + 1)) } } := by
  have hwalk : (countVisit (sweepWrite next s)).walk = s.walk := by simp
  rw [← hwalk]
  exact if_neg (Nat.not_le.mpr h)

theorem sweepJobVisit_ends {first count next : Nat} {s : State} (h : next + 1 = first + count) :
    sweepJobVisit first count next s = takeNextJob (flagged 0x40#8 { countVisit (sweepWrite next s) with
      walk := { s.walk with job := none } }) := by
  have hwalk : (countVisit (sweepWrite next s)).walk = s.walk := by simp
  rw [← hwalk]
  exact if_pos h.ge

/-- Settles O34: the access is one visit, and the link after the group says where the cursor goes. -/
theorem uplinkVisitsPersistPlacements : Obligations.UplinkVisitsPersistPlacements := by
  intro u g s hrun hjob hgrant r map hr hmap s1 s2 hs1 hs2 before after hchain hg
  have hwritten : s1 = persist g (((granted .walk s).group g).effectiveMap s.settled) (granted .walk s) := by
    rw [hs1, hmap, ← effectiveMap_eq, hr, persist_eq_ite]
    rfl
  have hcounted : s2 = countVisit s1 := by
    rw [hs2, countVisit, hwritten, persist_mgmt]
    rfl
  have hnext : successor g (granted .walk s).table.chains[u] = after.head? := by
    have hsame : (granted .walk s).table.chains = s.table.chains := rfl
    rw [hsame, hchain, successor_append after hg]
  rw [exec_uplinkJobVisit_granted hrun hgrant hjob, hcounted, hwritten]
  constructor
  · rintro h rest rfl
    exact congrArg Host.Outcome.next (uplinkVisit_advances hnext)
  · rintro rfl
    exact congrArg Host.Outcome.next (uplinkVisit_ends hnext)

/-- Settles O35: a closing access ends the job; a sweep visit writes, counts, and is the last one or not. -/
theorem sweepsVisitEveryGroupInFull : Obligations.SweepsVisitEveryGroupInFull := by
  refine fun s hrun hgrant => ⟨fun u hjob => exec_closingAccess_granted hrun hgrant hjob, ?_⟩
  intro first count next hjob r map hr hmap s1 s2 hs1 hs2
  have hwritten : s1 = sweepWrite next (granted .walk s) := by
    rw [hs1, hmap, hr, sweepWrite_eq_ite]
    rfl
  have hcounted : s2 = countVisit s1 := by
    rw [hs2, countVisit, hwritten, sweepWrite_mgmt]
    rfl
  rw [exec_sweepVisit_granted hrun hgrant hjob, hcounted, hwritten]
  exact ⟨fun hmore => congrArg Host.Outcome.next (sweepJobVisit_advances hmore),
    fun hlast => congrArg Host.Outcome.next (sweepJobVisit_ends hlast)⟩

end Sys2Proof.Proofs
end

section
/-! PROOFS. The answer order list of a port and its transmit order: which Answers have joined, which may join, and how (R93). -/
namespace Sys2Proof.Proofs
open Sys2Proof.Machine Sys2Proof.Safety Sys2Proof.Claims

/-! ### Joining -/

/-- An entry whose Answer has joined the transmit order. -/
def markJoined (e : ResolveEntry) : ResolveEntry := { e with joined := true }

@[simp] theorem markJoined_needsAccess (e : ResolveEntry) : (markJoined e).needsAccess = e.needsAccess := rfl
@[simp] theorem markJoined_answer (e : ResolveEntry) : (markJoined e).answer = e.answer := rfl

/-- Behind the entries that have joined, those with an Answer join, up to the first without one (R93). -/
theorem joinAnswers_eq {first ready rest : List ResolveEntry} (hfirst : ∀ e ∈ first, e.joined = true)
    (hready : ∀ e ∈ ready, e.joined = false ∧ e.answer ≠ none)
    (hrest : ∀ e, rest.head? = some e → e.joined = false ∧ e.answer = none) :
    joinAnswers (first ++ ready ++ rest) =
      (first ++ ready.map markJoined ++ rest, (ready.filterMap (·.answer)).map .answer) := by
  induction first with
  | nil =>
    induction ready with
    | nil =>
      cases rest with
      | nil => rfl
      | cons e t =>
        obtain ⟨hjoined, hnone⟩ := hrest e rfl
        simp [joinAnswers, hjoined, hnone]
    | cons e ready ih =>
      obtain ⟨hjoined, hanswered⟩ := hready e List.mem_cons_self
      obtain ⟨a, ha⟩ := Option.ne_none_iff_exists'.mp hanswered
      have htail := ih fun d hd => hready d (List.mem_cons_of_mem _ hd)
      simp only [List.nil_append] at htail
      simp [joinAnswers, hjoined, ha, htail, markJoined]
  | cons e first ih =>
    have htail := ih fun d hd => hfirst d (List.mem_cons_of_mem _ hd)
    simp only [List.append_assoc] at htail
    simp [joinAnswers, hfirst e List.mem_cons_self, htail]

/-- The port whose entries in the middle have joined. -/
theorem joinReady_eq {p : Port} {first ready rest : List ResolveEntry} (hsplit : p.answers = first ++ ready ++ rest)
    (hfirst : ∀ e ∈ first, e.joined = true) (hready : ∀ e ∈ ready, e.joined = false ∧ e.answer ≠ none)
    (hrest : ∀ e, rest.head? = some e → e.joined = false ∧ e.answer = none) :
    p.joinReady = { p with answers := first ++ ready.map markJoined ++ rest
                           transmit := p.transmit ++ (ready.filterMap (·.answer)).map .answer } := by
  simp only [Port.joinReady, hsplit, joinAnswers_eq hfirst hready hrest]

/-! ### The joined entries and the transmit order -/

@[simp] theorem answersIn_append (l m : List LaneMessage) : answersIn (l ++ m) = answersIn l ++ answersIn m := List.filterMap_append

@[simp] theorem answersIn_answers (as : List Answer) : answersIn (as.map .answer) = as := by
  simp [answersIn, List.filterMap_map]

/-- The answer order list of a port, cut behind the entries whose Answers have joined: their Answers are those in the transmit order. -/
structure Queued (p : Port) (first rest : List ResolveEntry) : Prop where
  split : p.answers = first ++ rest
  joined : ∀ e ∈ first, e.joined = true ∧ e.answer.isSome = true
  waiting : ∀ e ∈ rest, e.joined = false
  sent : answersIn p.transmit = first.filterMap (·.answer)

/-- The first entry whose Answer has not joined has no Answer yet. -/
def HeadWaits (rest : List ResolveEntry) : Prop := ∀ e, rest.head? = some e → e.answer = none

/-- A list in which nothing joins before what stands ahead is cut into the joined entries and the others. -/
theorem exists_joined_split {l : List ResolveEntry} (h : l.Pairwise fun a b => b.joined = true → a.joined = true) :
    ∃ first rest, l = first ++ rest ∧ (∀ e ∈ first, e.joined = true) ∧ ∀ e ∈ rest, e.joined = false := by
  induction l with
  | nil => exact ⟨[], [], rfl, by simp, by simp⟩
  | cons e t ih =>
    obtain ⟨hhead, htail⟩ := List.pairwise_cons.mp h
    cases hjoined : e.joined with
    | true =>
      obtain ⟨first, rest, rfl, hfirst, hrest⟩ := ih htail
      exact ⟨e :: first, rest, rfl, List.forall_mem_cons.mpr ⟨hjoined, hfirst⟩, hrest⟩
    | false =>
      refine ⟨[], e :: t, rfl, by simp, List.forall_mem_cons.mpr ⟨hjoined, fun d hd => ?_⟩⟩
      exact Bool.eq_false_iff.mpr fun hd' => absurd (hhead d hd hd') (by simp [hjoined])

section Split
variable {first rest : List ResolveEntry} (hfirst : ∀ e ∈ first, e.joined = true) (hrest : ∀ e ∈ rest, e.joined = false)
include hfirst hrest

theorem filter_joined_split : (first ++ rest).filter (·.joined) = first := by
  rw [List.filter_append, List.filter_eq_self.mpr hfirst, List.filter_eq_nil_iff.mpr (by simpa using hrest), List.append_nil]

theorem find_unjoined_split : (first ++ rest).find? (fun e => !e.joined) = rest.head? := by
  rw [List.find?_append, List.find?_eq_none.mpr (by simpa using hfirst), Option.none_or]
  cases rest with
  | nil => rfl
  | cons e t => simp [hrest e List.mem_cons_self]

theorem pairwise_split : (first ++ rest).Pairwise fun a b => b.joined = true → a.joined = true :=
  List.pairwise_append.mpr ⟨List.pairwise_of_forall_mem_list fun a ha _ _ _ => hfirst a ha,
    List.pairwise_of_forall_mem_list fun _ _ b hb hb' => by simp [hrest b hb] at hb', fun a ha _ _ _ => hfirst a ha⟩

end Split

/-- `TransmitOk` by the cut of the answer order list. -/
theorem transmitOk_iff (p : Port) : TransmitOk p ↔
    (∃ first rest, Queued p first rest ∧ HeadWaits rest) ∧ (p.serves = false → p.transmit = []) := by
  constructor
  · rintro ⟨hpairwise, hanswered, hsent, hhead, hquiet⟩
    obtain ⟨first, rest, hsplit, hfirst, hrest⟩ := exists_joined_split hpairwise
    rw [hsplit, filter_joined_split hfirst hrest] at hsent
    rw [hsplit, find_unjoined_split hfirst hrest] at hhead
    refine ⟨⟨first, rest, ⟨hsplit, fun e he => ⟨hfirst e he, ?_⟩, hrest, hsent⟩, fun e he => by simpa [he] using hhead⟩, hquiet⟩
    exact hanswered e (hsplit ▸ List.mem_append_left _ he) (hfirst e he)
  · rintro ⟨⟨first, rest, ⟨hsplit, hjoined, hrest, hsent⟩, hhead⟩, hquiet⟩
    have hfirst (e : ResolveEntry) (he : e ∈ first) : e.joined = true := (hjoined e he).1
    refine ⟨?_, fun e he hje => ?_, ?_, ?_, hquiet⟩
    · rw [hsplit]; exact pairwise_split hfirst hrest
    · rw [hsplit] at he
      rcases List.mem_append.mp he with he | he
      · exact (hjoined e he).2
      · simp [hrest e he] at hje
    · rw [hsplit, filter_joined_split hfirst hrest]; exact hsent
    · rw [hsplit, find_unjoined_split hfirst hrest]
      cases rest with
      | nil => rfl
      | cons e t => exact hhead e rfl

/-- Messages other than Answers join the transmit order of a serving port. -/
theorem transmitOk_append {p : Port} {m : List LaneMessage} (hm : answersIn m = []) (hserves : p.serves = true) (h : TransmitOk p) :
    TransmitOk { p with transmit := p.transmit ++ m } := by
  obtain ⟨hpairwise, hanswered, hsent, hhead, -⟩ := h
  exact ⟨hpairwise, hanswered, by simpa [hm] using hsent, hhead, fun hquiet => absurd (hserves.symm.trans hquiet) (by decide)⟩

/-- The Answer at the head of the transmit order is that of the entry at the head of the answer order list (R93). -/
theorem Queued.head {p : Port} {first rest : List ResolveEntry} {a : Answer} {messages : List LaneMessage} (h : Queued p first rest)
    (ht : p.transmit = .answer a :: messages) :
    ∃ e behind, first = e :: behind ∧ e.answer = some a ∧ answersIn messages = behind.filterMap (·.answer) := by
  have hsent : a :: answersIn messages = first.filterMap (·.answer) := by
    have hcons : answersIn (.answer a :: messages) = a :: answersIn messages := rfl
    rw [← h.sent, ht, hcons]
  cases first with
  | nil => simp at hsent
  | cons e behind =>
    obtain ⟨b, hb⟩ := Option.isSome_iff_exists.mp (h.joined e List.mem_cons_self).2
    simp only [List.filterMap_cons, hb, List.cons.injEq] at hsent
    exact ⟨e, behind, rfl, by rw [hb, hsent.1], hsent.2⟩

/-- A list is cut at its first entry without an Answer. -/
theorem exists_answered_split (l : List ResolveEntry) :
    ∃ ready later, l = ready ++ later ∧ (∀ e ∈ ready, e.answer ≠ none) ∧ HeadWaits later := by
  induction l with
  | nil => exact ⟨[], [], rfl, by simp, by simp [HeadWaits]⟩
  | cons e t ih =>
    by_cases ha : e.answer = none
    · exact ⟨[], e :: t, rfl, by simp, by simp [HeadWaits, ha]⟩
    · obtain ⟨ready, later, rfl, hready, hlater⟩ := ih
      exact ⟨e :: ready, later, rfl, List.forall_mem_cons.mpr ⟨ha, hready⟩, hlater⟩

/-- Once the Answers that may join have, the first entry left waiting has none (R93). -/
theorem Queued.joinReady {p : Port} {first rest : List ResolveEntry} (h : Queued p first rest) :
    ∃ ready later, p.answers = first ++ ready ++ later ∧ HeadWaits later ∧
      Queued p.joinReady (first ++ ready.map markJoined) later ∧
      p.joinReady = { p with answers := first ++ ready.map markJoined ++ later
                             transmit := p.transmit ++ (ready.filterMap (·.answer)).map .answer } := by
  obtain ⟨hsplit, hjoined, hwaiting, hsent⟩ := h
  obtain ⟨ready, later, rfl, hready, hhead⟩ := exists_answered_split rest
  rw [← List.append_assoc] at hsplit
  obtain ⟨hreadyWaits, hlater⟩ := List.forall_mem_append.mp hwaiting
  have heq := joinReady_eq hsplit (fun e he => (hjoined e he).1) (fun e he => ⟨hreadyWaits e he, hready e he⟩)
    fun e he => ⟨hlater e (List.mem_of_head? he), hhead e he⟩
  refine ⟨ready, later, hsplit, hhead, ?_, heq⟩
  rw [heq]
  refine ⟨rfl, List.forall_mem_append.mpr ⟨hjoined, fun e he => ?_⟩, hlater, by simp [hsent, List.filterMap_map, Function.comp_def]⟩
  obtain ⟨d, hd, rfl⟩ := List.mem_map.mp he
  exact ⟨rfl, Option.isSome_iff_ne_none.mpr (hready d hd)⟩

end Sys2Proof.Proofs
end

section
/-! PROOFS. One lookup port: the operations the commands apply to it, and that each keeps its lists, counts and ack timer in order
(R89, R91, R93, R94, R98, R105, R120). -/
namespace Sys2Proof.Proofs
open Sys2Proof.Machine Sys2Proof.Safety Sys2Proof.Claims

/-- The conditions of `PortsInv` on one port. -/
structure PortOk (p : Port) : Prop where
  answers : AnswersOk p
  ack : AckInStep p
  quiet : QuietUnlessUp p
  transmit : TransmitOk p

theorem serves_iff (p : Port) : p.serves = true ↔ p.state = .sync ∨ p.state = .up := by simp [Port.serves]

theorem not_serves_iff (p : Port) : p.serves = false ↔ p.state = .down ∨ p.state = .fault := by
  cases hs : p.state <;> simp [Port.serves, hs]

/-! ### Vectors and the ack timer (R98, R99, R105) -/

/-- The port after it forms a vector (R98). -/
theorem formVector_eq (live : UplinkSet) (timeout : Byte) (p : Port) : p.formVector live timeout =
    { p with nextSeq := if p.nextSeq = 255#8 then 1#8 else p.nextSeq + 1#8
             outstanding := some { sequence := p.nextSeq, notLive := ~~~live }
             transmit := p.transmit ++ [.downVector { sequence := p.nextSeq, notLive := ~~~live }]
             ackTimer := if p.ackTimer = .stopped then .running (timeout.toNat * 100) else p.ackTimer } := by
  simp [Port.formVector, startAckTimer_eq_ite, nextSequence]

/-- A timer that is started runs. -/
theorem started_ne_stopped (t : Timer) (n : Nat) : (if t = .stopped then .running n else t) ≠ Timer.stopped := by
  split
  · simp
  · assumption

/-- A port that serves and awaits something, its ack timer running. -/
theorem ackInStep_of_awaiting {p : Port} (htimer : p.ackTimer ≠ .stopped) (hawaits : p.awaitsAck = true)
    (hflag : p.pendingFlag = true → p.outstanding.isSome = true) (hserves : p.serves = true) : AckInStep p :=
  ⟨iff_of_false htimer (by simp [hawaits]), hflag, fun h => by simp [hserves] at h⟩

/-- After an acknowledgement the timer follows what the port still awaits (R105). -/
theorem ackInStep_rearm {p : Port} (timeout : Byte) (hflag : p.pendingFlag = true → p.outstanding.isSome = true)
    (hserves : p.serves = true) : AckInStep (p.rearmAckTimer timeout) := by
  have hawaits : (p.rearmAckTimer timeout).awaitsAck = p.awaitsAck := rfl
  refine ⟨?_, hflag, fun h => absurd (hserves.symm.trans h) (by decide)⟩
  rw [hawaits]
  cases h : p.awaitsAck <;> simp [Port.rearmAckTimer, h]

theorem portOk_formVector {p : Port} (live : UplinkSet) (timeout : Byte) (hserves : p.serves = true) (h : PortOk p) :
    PortOk (p.formVector live timeout) := by
  rw [formVector_eq]
  exact ⟨h.answers, ackInStep_of_awaiting (started_ne_stopped _ _) rfl (fun _ => rfl) hserves, h.quiet,
    transmitOk_append rfl hserves h.transmit⟩

theorem portOk_takeReport {p : Port} (left live : UplinkSet) (timeout : Byte) (h : PortOk p) :
    PortOk (p.takeReport left live timeout) := by
  have hleft : PortOk { p with ackUp := p.ackUp &&& ~~~left } := ⟨h.answers, h.ack, h.quiet, h.transmit⟩
  simp only [Port.takeReport]
  split
  next hserves =>
    split
    · exact portOk_formVector live timeout hserves hleft
    next hsome =>
      obtain ⟨htimer, -, hquiet⟩ := h.ack
      exact ⟨h.answers, ⟨htimer, fun _ => by simpa [Option.isSome_iff_ne_none] using hsome, hquiet⟩, h.quiet, h.transmit⟩
  next => exact hleft

/-- A DOWN port holds nothing, so it may enter SYNC. -/
theorem portOk_enterSync {p : Port} (hdown : p.state = .down) (h : PortOk p) : PortOk { p with state := .sync } := by
  have hserves : p.serves = false := (not_serves_iff p).mpr (.inl hdown)
  have hserving : ({ p with state := .sync } : Port).serves = true := rfl
  obtain ⟨hlength, hcount, hmax, hup, hshort, -⟩ := h.answers
  obtain ⟨htimer, hflag, -⟩ := h.ack
  obtain ⟨hpairwise, hanswered, hsent, hhead, -⟩ := h.transmit
  exact ⟨⟨hlength, hcount, hmax, fun _ => hup (by simp [hdown]), hshort, fun hn => absurd (hserving.symm.trans hn) (by decide)⟩,
    ⟨htimer, hflag, fun hn => absurd (hserving.symm.trans hn) (by decide)⟩, fun _ => h.quiet (by simp [hdown]),
    hpairwise, hanswered, hsent, hhead, fun hn => absurd (hserving.symm.trans hn) (by decide)⟩

theorem portOk_acknowledge {p : Port} (v : DownVector) (live : UplinkSet) (timeout : Byte) (hserves : p.serves = true)
    (h : PortOk p) : PortOk (p.acknowledge v live timeout) := by
  unfold Port.acknowledge
  dsimp only
  split
  · rw [formVector_eq]
    refine ⟨h.answers, ackInStep_rearm timeout (fun hf => by simp at hf) hserves, h.quiet, ?_⟩
    exact transmitOk_append rfl hserves h.transmit
  next hclear =>
    split
    next hsync =>
      obtain ⟨hlength, hcount, hmax, -, hshort, -⟩ := h.answers
      obtain ⟨hpairwise, hanswered, hsent, hhead, -⟩ := h.transmit
      exact ⟨⟨hlength, hcount, hmax, fun hn => absurd rfl hn, hshort, fun hn => by cases hn⟩,
        ackInStep_rearm timeout (fun hf => absurd hf hclear) rfl, fun hn => absurd rfl hn,
        hpairwise, hanswered, hsent, hhead, fun hn => by cases hn⟩
    next => exact ⟨h.answers, ackInStep_rearm timeout (fun hf => absurd hf hclear) hserves, h.quiet, h.transmit⟩

/-! ### Port resets (R91) -/

/-- A port that holds nothing is in order, whatever its state. -/
theorem portOk_of_empty {p : Port} (hanswers : p.answers = []) (hunanswered : p.unanswered = 0) (htransmit : p.transmit = [])
    (houtstanding : p.outstanding = none) (hflag : p.pendingFlag = false) (htimer : p.ackTimer = .stopped) (hslots : p.slots = [])
    (hretracts : p.retracts = []) : PortOk p := by
  have hawaits : p.awaitsAck = false := by simp [Port.awaitsAck, houtstanding, hretracts]
  refine ⟨⟨?_, ?_, ?_, fun _ => hunanswered, ?_, fun _ => hanswers⟩, ⟨iff_of_true htimer hawaits, ?_, fun _ => hawaits⟩,
    fun _ => ⟨hslots, hretracts⟩, ?_, ?_, ?_, ?_, fun _ => htransmit⟩ <;> simp [hanswers, hunanswered, htransmit, hflag, answersIn]

theorem portOk_resetPort (new : PortState) (p : Port) : PortOk (resetPort new p) :=
  portOk_of_empty rfl rfl rfl rfl rfl rfl rfl rfl

theorem portOk_reset (locked : Bool) : PortOk { Port.reset with locked := locked } :=
  portOk_of_empty rfl rfl rfl rfl rfl rfl rfl rfl

/-! ### Resolves (R93 to R96) -/

/-- The answer order list is in order when the Answers that may join are still to join. -/
theorem portOk_joinReady {p : Port} {first rest : List ResolveEntry} (hanswers : AnswersOk p) (hack : AckInStep p)
    (hquiet : QuietUnlessUp p) (hqueued : Queued p first rest) (hserves : p.serves = true) : PortOk p.joinReady := by
  obtain ⟨ready, later, hsplit, hhead, hjoined, heq⟩ := hqueued.joinReady
  have hserving : p.joinReady.serves = true := hserves
  refine ⟨?_, hack, hquiet, (transmitOk_iff _).mpr ⟨⟨_, later, hjoined, hhead⟩, fun hn => absurd (hserving.symm.trans hn) (by decide)⟩⟩
  obtain ⟨hlength, hcount, hmax, hup, hshort, -⟩ := hanswers
  rw [heq]
  rw [hsplit] at hlength hcount hshort
  refine ⟨by simpa using hlength, by simpa [List.countP_map, Function.comp_def] using hcount, hmax, hup, fun e he hn => ?_,
    fun hn => absurd (hserves.symm.trans hn) (by decide)⟩
  simp only [List.mem_append, List.mem_map] at he
  rcases he with (he | ⟨d, hd, rfl⟩) | he
  · exact hshort e (by simp [he]) hn
  · exact hshort d (by simp [hd]) hn
  · exact hshort e (by simp [he]) hn

theorem arrivalStatus_none {p : Port} {ready : Bool} {index : BitVec 16} (h : arrivalStatus p ready index = none) :
    p.state ≠ .sync ∧ p.unanswered < Config.maxUnanswered := by
  unfold arrivalStatus at h
  split_ifs at h with hsync hinit hrange hbusy
  exact ⟨hsync, by omega⟩

theorem portOk_appendResolve {p : Port} (ready : Bool) (index : BitVec 16) (hserves : p.serves = true)
    (hroom : p.answers.length < Config.maxAnswers) (h : PortOk p) : PortOk (p.appendResolve ready index) := by
  obtain ⟨⟨first, rest, hqueued, -⟩, -⟩ := (transmitOk_iff p).mp h.transmit
  obtain ⟨hlength, hcount, hmax, hup, hshort, -⟩ := h.answers
  obtain ⟨hsplit, hjoined, hwaiting, hsent⟩ := hqueued
  unfold Port.appendResolve
  generalize hs : arrivalStatus p ready index = status
  refine portOk_joinReady ⟨?_, ?_, ?_, ?_, ?_, fun hn => absurd (hserves.symm.trans hn) (by decide)⟩ h.ack h.quiet
    (first := first) (rest := rest ++ [_]) ⟨by rw [hsplit, List.append_assoc], hjoined, ?_, hsent⟩ hserves
  · simpa using hroom
  · cases status <;> simp [hcount]
  · cases status with
    | none => exact (arrivalStatus_none hs).2
    | some st => exact hmax
  · intro hn
    cases status with
    | none =>
      rcases (serves_iff p).mp hserves with hsync | hup'
      · exact absurd hsync (arrivalStatus_none hs).1
      · exact absurd hup' hn
    | some st => exact hup hn
  · intro e he hn
    rcases List.mem_append.mp he with he | he
    · exact hshort e he hn
    · cases List.mem_singleton.mp he
      cases status <;> simp_all
  · exact List.forall_mem_append.mpr ⟨hwaiting, by simp⟩

/-- Entries ahead of the oldest unserved one stay. -/
theorem answerOldest_append {f : ResolveEntry → Answer} {before l : List ResolveEntry} (h : ∀ d ∈ before, d.unserved = false) :
    answerOldest f (before ++ l) = before ++ answerOldest f l := by
  induction before with
  | nil => rfl
  | cons d before ih =>
    obtain ⟨hd, htail⟩ := List.forall_mem_cons.mp h
    simp [answerOldest, hd, ih htail]

theorem answerOldest_cons {f : ResolveEntry → Answer} {e : ResolveEntry} (l : List ResolveEntry) (h : e.unserved = true) :
    answerOldest f (e :: l) = { e with answer := some (f e) } :: l := if_pos h

theorem map_needsAccess_answerOldest (f : ResolveEntry → Answer) (l : List ResolveEntry) :
    (answerOldest f l).map (·.needsAccess) = l.map (·.needsAccess) := by
  induction l with
  | nil => rfl
  | cons e t ih => unfold answerOldest; split <;> simp [ih]

/-- An entry keeps its place: it stays, or is the unserved one that is given its Answer. -/
theorem mem_answerOldest {f : ResolveEntry → Answer} {l : List ResolveEntry} {d : ResolveEntry} (h : d ∈ answerOldest f l) :
    d ∈ l ∨ ∃ e ∈ l, e.unserved = true ∧ d = { e with answer := some (f e) } := by
  induction l with
  | nil => exact .inl h
  | cons e t ih =>
    unfold answerOldest at h
    split at h
    next hunserved =>
      rcases List.mem_cons.mp h with rfl | h
      · exact .inr ⟨e, List.mem_cons_self, hunserved, rfl⟩
      · exact .inl (List.mem_cons_of_mem _ h)
    next =>
      rcases List.mem_cons.mp h with rfl | h
      · exact .inl List.mem_cons_self
      · rcases ih h with h | ⟨c, hc, hunserved, hd⟩
        · exact .inl (List.mem_cons_of_mem _ h)
        · exact .inr ⟨c, List.mem_cons_of_mem _ hc, hunserved, hd⟩

/-- The port after the access of its oldest unserved Resolve, entry `e` (R96). -/
def servedPort (e : ResolveEntry) (r : Group) (S : UplinkSet) (p : Port) : Port :=
  let p1 := { p with answers := answerOldest (fun _ => accessAnswer e.index r S) p.answers }
  (if r.state = .active then p1.recordCopy e.index.toNat r.gen else p1).joinReady

theorem serveResolve_eq {i : PortId} {s : State} {e : ResolveEntry} (h : (s.port i).answers.find? ResolveEntry.unserved = some e) :
    serveResolve i s = s.setPort i (servedPort e (s.group e.index.toNat) s.settled (s.port i)) := by
  simp only [serveResolve, h, servedPort]

/-- Only an UP port has an unserved entry (R89, R94). -/
theorem PortOk.up_of_unserved {p : Port} {e : ResolveEntry} (h : PortOk p) (he : e ∈ p.answers) (hunserved : e.unserved = true) :
    p.state = .up := by
  obtain ⟨hneeds, -⟩ : e.needsAccess = true ∧ _ := by simpa [ResolveEntry.unserved] using hunserved
  obtain ⟨-, hcount, -, hzero, -, -⟩ := h.answers
  by_contra hn
  exact List.countP_eq_zero.mp (hcount.symm.trans (hzero hn)) e he hneeds

theorem portOk_served {p : Port} {e : ResolveEntry} (r : Group) (S : UplinkSet)
    (hfind : p.answers.find? ResolveEntry.unserved = some e) (h : PortOk p) : PortOk (servedPort e r S p) := by
  have hup : p.state = .up := h.up_of_unserved (List.mem_of_find?_eq_some hfind) (List.find?_some hfind)
  have hserves : p.serves = true := (serves_iff p).mpr (.inr hup)
  obtain ⟨hlength, hcount, hmax, hzero, hshort, -⟩ := h.answers
  obtain ⟨⟨first, rest, ⟨hsplit, hjoined, hwaiting, hsent⟩, -⟩, -⟩ := (transmitOk_iff p).mp h.transmit
  have hflags := map_needsAccess_answerOldest (fun _ => accessAnswer e.index r S) p.answers
  have hcut : answerOldest (fun _ => accessAnswer e.index r S) p.answers =
      first ++ answerOldest (fun _ => accessAnswer e.index r S) rest := by
    rw [hsplit]
    refine answerOldest_append fun d hd => ?_
    simp [ResolveEntry.unserved, (hjoined d hd).2]
  have hanswers : AnswersOk { p with answers := answerOldest (fun _ => accessAnswer e.index r S) p.answers } := by
    refine ⟨?_, ?_, hmax, hzero, fun d hd hn => ?_, fun hn => absurd (hserves.symm.trans hn) (by decide)⟩
    · simpa using (congrArg List.length hflags).trans_le (by simpa using hlength)
    · have := congrArg (List.countP id) hflags
      simp only [List.countP_map, Function.comp_def, id] at this
      exact hcount.trans this.symm
    · rcases mem_answerOldest hd with hd | ⟨c, -, -, rfl⟩
      · exact hshort d hd hn
      · rfl
  have hqueued : ∀ d ∈ answerOldest (fun _ => accessAnswer e.index r S) rest, d.joined = false := fun d hd => by
    rcases mem_answerOldest hd with hd | ⟨c, hc, -, rfl⟩
    · exact hwaiting d hd
    · exact hwaiting c hc
  unfold servedPort
  dsimp only
  split
  · exact portOk_joinReady hanswers h.ack (fun hn => absurd hup hn) ⟨hcut, hjoined, hqueued, hsent⟩ hserves
  · exact portOk_joinReady hanswers h.ack h.quiet ⟨hcut, hjoined, hqueued, hsent⟩ hserves

/-! ### Retracts (R118, R121, R124) -/

theorem sent_markOldest {l : List RetractEntry} {e : RetractEntry} (h : l.find? (·.mark == .waiting) = some e) :
    (markOldest l).any (·.mark == .sent) = true := by
  induction l with
  | nil => simp at h
  | cons d t ih =>
    unfold markOldest
    split
    · simp
    next hd =>
      rw [List.find?_cons_of_neg (p := fun c : RetractEntry => c.mark == .waiting) hd] at h
      simp [ih h]

/-- Sending a retract changes the retract list, the counters and the timer, and puts no Answer in the transmit order. -/
theorem sendRetract_eq (timeout : Byte) (p : Port) : ∃ r m c t, answersIn m = [] ∧
    p.sendRetract timeout = { p with retracts := r, transmit := p.transmit ++ m, counters := c, ackTimer := t } := by
  rcases p.sendRetract_cases timeout with ⟨e, -, -, h⟩ | ⟨-, h⟩ <;> rw [h]
  · exact ⟨_, [_], _, _, rfl, startAckTimer_eq_ite ..⟩
  · exact ⟨p.retracts, [], p.counters, p.ackTimer, rfl, by rw [List.append_nil]⟩

theorem portOk_sendRetract {p : Port} (timeout : Byte) (hup : p.state = .up) (h : PortOk p) : PortOk (p.sendRetract timeout) := by
  have hserves : p.serves = true := (serves_iff p).mpr (.inr hup)
  rcases p.sendRetract_cases timeout with ⟨e, hfind, -, hsent⟩ | ⟨-, hkept⟩
  · rw [hsent, startAckTimer_eq_ite]
    obtain ⟨-, hflag, -⟩ := h.ack
    refine ⟨h.answers, ackInStep_of_awaiting (started_ne_stopped _ _) ?_ hflag hserves, fun hn => absurd hup hn,
      transmitOk_append rfl hserves h.transmit⟩
    simp [Port.awaitsAck, sent_markOldest hfind]
  · rw [hkept]; exact h

/-- Retract entries of an UP port may come and go as long as those SENT are there as before. -/
theorem portOk_setRetracts {p : Port} {l : List RetractEntry} (hup : p.state = .up)
    (hsent : l.any (·.mark == .sent) = p.retracts.any (·.mark == .sent)) (h : PortOk p) : PortOk { p with retracts := l } := by
  have hawaits : ({ p with retracts := l } : Port).awaitsAck = p.awaitsAck := by simp only [Port.awaitsAck, hsent]
  refine ⟨h.answers, ?_, fun hn => absurd hup hn, h.transmit⟩
  rw [AckInStep, hawaits]
  exact h.ack

theorem raiseFor_mark (g : Nat) (n : Generation) (e : RetractEntry) : (e.raiseFor g n).mark = e.mark := by
  unfold RetractEntry.raiseFor; split <;> rfl

/-- A port that holds no copy and no entry has nothing to tell of a change. -/
theorem takeChange_quiet {p : Port} (g : Nat) (n : Generation) (timeout : Byte) (hslots : p.slots = []) (hretracts : p.retracts = []) :
    p.takeChange g n timeout = p := by
  have hcopy : p.holdsCopy g = false := by simp [Port.holdsCopy, hslots]
  simp [Port.takeChange, hcopy, hretracts]

theorem portOk_takeChange {p : Port} (g : Nat) (n : Generation) (timeout : Byte) (h : PortOk p) : PortOk (p.takeChange g n timeout) := by
  by_cases hup : p.state = .up
  · have hslot : PortOk (if p.holdsCopy g then p.emptySlot g else p) := by
      split
      · exact ⟨h.answers, h.ack, fun hn => absurd hup hn, h.transmit⟩
      · exact h
    have hstate : (if p.holdsCopy g then p.emptySlot g else p).state = .up := by split <;> exact hup
    have hsame : (if p.holdsCopy g then p.emptySlot g else p).retracts = p.retracts := by split <;> rfl
    simp only [Port.takeChange]
    generalize (if p.holdsCopy g then p.emptySlot g else p) = q at *
    split
    · refine portOk_sendRetract (p := { q with retracts := _ }) timeout hstate (portOk_setRetracts hstate ?_ hslot)
      simp [hsame, List.any_map, Function.comp_def, raiseFor_mark]
    · split
      · refine portOk_sendRetract (p := { q with retracts := _ }) timeout hstate (portOk_setRetracts hstate ?_ hslot)
        simp [hsame]
      · exact hslot
  · obtain ⟨hslots, hretracts⟩ := h.quiet hup
    rw [takeChange_quiet g n timeout hslots hretracts]
    exact h

/-- The port after a matching Retract Done: its oldest SENT entry has gone (R125). -/
def retractDonePort (timeout : Byte) (p : Port) : Port :=
  (Port.sendRetract timeout { p with retracts := p.retracts.eraseP (·.mark == .sent) }).rearmAckTimer timeout

theorem portOk_retractDone {p : Port} (timeout : Byte) (hup : p.state = .up) (h : PortOk p) : PortOk (retractDonePort timeout p) := by
  have hserves : p.serves = true := (serves_iff p).mpr (.inr hup)
  obtain ⟨-, hflag, -⟩ := h.ack
  obtain ⟨r, m, c, t, hm, heq⟩ := sendRetract_eq timeout { p with retracts := p.retracts.eraseP (·.mark == .sent) }
  rw [retractDonePort, heq]
  exact ⟨h.answers, ackInStep_rearm timeout hflag hserves, fun hn => absurd hup hn, transmitOk_append hm hserves h.transmit⟩

/-! ### Messages that leave (R93, R95) -/

/-- A message that is no Answer has left. -/
theorem portOk_messageLeft {p : Port} {m : LaneMessage} {rest : List LaneMessage} {c : List LaneChar} (hm : answersIn [m] = [])
    (ht : p.transmit = m :: rest) (h : PortOk p) : PortOk { p with transmit := rest, sent := c } := by
  obtain ⟨hpairwise, hanswered, hsent, hhead, hquiet⟩ := h.transmit
  have hrest : answersIn rest = answersIn p.transmit := by
    rw [ht, ← List.singleton_append, answersIn_append, hm, List.nil_append]
  refine ⟨h.answers, h.ack, h.quiet, hpairwise, hanswered, hrest.trans hsent, hhead, fun hn => ?_⟩
  simp [hquiet hn] at ht

/-- The Answer at the head has left with its entry (R95). -/
theorem portOk_answerLeft {p : Port} {a : Answer} {messages : List LaneMessage} (ht : p.transmit = .answer a :: messages)
    (h : PortOk p) : PortOk (p.answerLeft a messages) := by
  obtain ⟨⟨first, rest, hqueued, hhead⟩, hquiet⟩ := (transmitOk_iff p).mp h.transmit
  have hserves : p.serves = true := by
    by_contra hn
    simp [hquiet (by simpa using hn)] at ht
  obtain ⟨e, behind, rfl, -, hsent⟩ := hqueued.head ht
  obtain ⟨hsplit, hjoined, hwaiting, -⟩ := hqueued
  obtain ⟨hlength, hcount, hmax, hzero, hshort, -⟩ := h.answers
  have htail : p.answers.tail = behind ++ rest := by rw [hsplit]; rfl
  have hfirst : (p.answers.head?.map (·.needsAccess)).getD false = e.needsAccess := by rw [hsplit]; rfl
  have hunanswered : (p.answerLeft a messages).unanswered = (behind ++ rest).countP (·.needsAccess) := by
    rw [hsplit, List.cons_append, List.countP_cons] at hcount
    simp only [Port.answerLeft, hfirst]
    cases hneeds : e.needsAccess <;> simp [hneeds] at hcount ⊢ <;> omega
  have hle : (p.answerLeft a messages).unanswered ≤ p.unanswered := by
    simp only [Port.answerLeft]; split <;> omega
  have hserving : (p.answerLeft a messages).serves = true := hserves
  refine ⟨⟨?_, ?_, hle.trans hmax, fun hn => Nat.le_zero.mp (hle.trans_eq (hzero hn)), fun d hd hn => ?_,
    fun hn => absurd (hserving.symm.trans hn) (by decide)⟩, h.ack, h.quiet,
    (transmitOk_iff _).mpr ⟨⟨behind, rest, ⟨htail, fun d hd => hjoined d (List.mem_cons_of_mem _ hd), hwaiting, hsent⟩, hhead⟩,
      fun hn => absurd (hserving.symm.trans hn) (by decide)⟩⟩
  · simp only [Port.answerLeft, List.length_tail]; omega
  · rw [hunanswered, ← htail]; rfl
  · exact hshort d (List.mem_of_mem_tail hd) hn

/-! ### The operations -/

/-- What the commands apply to a port. -/
inductive PortMove : Port → Port → Prop where
  | refl (p : Port) : PortMove p p
  | lock {p : Port} (b : Bool) : PortMove p { p with locked := b }
  | counters {p : Port} (c : PortCounters) : PortMove p { p with counters := c }
  | reported {p : Port} (left live : UplinkSet) (timeout : Byte) : PortMove p (p.takeReport left live timeout)
  | synced {p : Port} (live : UplinkSet) (timeout : Byte) : p.state = .down →
      PortMove p (Port.formVector live timeout { p with state := .sync })
  | reset {p : Port} (new : PortState) : PortMove p (resetPort new p)
  | acked {p : Port} (v : DownVector) (live : UplinkSet) (timeout : Byte) : p.serves = true →
      PortMove p (p.acknowledge v live timeout)
  | resolved {p : Port} (ready : Bool) (index : BitVec 16) : p.serves = true → p.answers.length < Config.maxAnswers →
      PortMove p (p.appendResolve ready index)
  | served {p : Port} {e : ResolveEntry} (r : Group) (S : UplinkSet) : p.answers.find? ResolveEntry.unserved = some e →
      PortMove p (servedPort e r S p)
  | changed {p : Port} (g : Nat) (n : Generation) (timeout : Byte) : PortMove p (p.takeChange g n timeout)
  | retractDone {p : Port} (timeout : Byte) : p.state = .up → PortMove p (retractDonePort timeout p)
  | answerLeft {p : Port} {a : Answer} {messages : List LaneMessage} : p.transmit = .answer a :: messages →
      PortMove p (p.answerLeft a messages)
  | messageLeft {p : Port} {m : LaneMessage} {messages : List LaneMessage} (c : List LaneChar) : answersIn [m] = [] →
      p.transmit = m :: messages → PortMove p { p with transmit := messages, sent := c }
  | fullReset {p : Port} (locked : Bool) : PortMove p { Port.reset with locked := locked }
  | trans {p q r : Port} : PortMove p q → PortMove q r → PortMove p r

/-- Every operation keeps a port in order. -/
theorem PortMove.keeps_portOk {p q : Port} (m : PortMove p q) (h : PortOk p) : PortOk q := by
  induction m with
  | refl => exact h
  | lock | counters => exact ⟨h.answers, h.ack, h.quiet, h.transmit⟩
  | reported left live timeout => exact portOk_takeReport left live timeout h
  | synced live timeout hdown => exact portOk_formVector live timeout rfl (portOk_enterSync hdown h)
  | reset new => exact portOk_resetPort new _
  | acked v live timeout hserves => exact portOk_acknowledge v live timeout hserves h
  | resolved ready index hserves hroom => exact portOk_appendResolve ready index hserves hroom h
  | served r S hfind => exact portOk_served r S hfind h
  | changed g n timeout => exact portOk_takeChange g n timeout h
  | retractDone timeout hup => exact portOk_retractDone timeout hup h
  | answerLeft ht => exact portOk_answerLeft ht h
  | messageLeft c hm ht => exact portOk_messageLeft hm ht h
  | fullReset locked => exact portOk_reset locked
  | trans _ _ ih ih' => exact ih' (ih h)

end Sys2Proof.Proofs
end

section
/-! PROOFS. What each command does to the two lookup ports (`exec_portsMove`), and that every step keeps both in order (O6). -/
namespace Sys2Proof.Proofs
open Sys2Proof.Machine Sys2Proof.Safety Sys2Proof.Claims

/-- What becomes of each port between two states. -/
structure PortsMove (s t : State) : Prop where
  port : ∀ i, PortMove (s.port i) (t.port i)

/-- Every use of this meaning moves the ports by their operations. -/
def MovesPorts (f : State → State) : Prop := ∀ s, PortsMove s (f s)

theorem PortsMove.refl (s : State) : PortsMove s s := ⟨fun _ => .refl _⟩

theorem PortsMove.trans {s m t : State} (h : PortsMove s m) (h' : PortsMove m t) : PortsMove s t :=
  ⟨fun i => (h.port i).trans (h'.port i)⟩

/-- A change outside the ports. -/
theorem PortsMove.of_ports {s t : State} (h0 : t.lp0 = s.lp0) (h1 : t.lp1 = s.lp1) : PortsMove s t := by
  refine ⟨fun i => ?_⟩
  cases i
  · rw [State.port_lp0, State.port_lp0, h0]; exact .refl _
  · rw [State.port_lp1, State.port_lp1, h1]; exact .refl _

/-- A further change outside the ports. -/
theorem PortsMove.then_ports {s t r : State} (h : PortsMove s t) (h0 : r.lp0 = t.lp0) (h1 : r.lp1 = t.lp1) : PortsMove s r :=
  h.trans (.of_ports h0 h1)

/-- The same, before it. -/
theorem PortsMove.after_ports {s m t : State} (h : PortsMove m t) (h0 : m.lp0 = s.lp0) (h1 : m.lp1 = s.lp1) : PortsMove s t :=
  .trans (.of_ports h0 h1) h

theorem PortsMove.formReply {s m : State} (h : PortsMove s m) (status : ReplyStatus) (payload : List Byte) :
    PortsMove s (formReply status payload m) := h.then_ports rfl rfl

theorem PortsMove.groupReply {s m : State} (h : PortsMove s m) (status : ReplyStatus) (g : Nat) :
    PortsMove s (groupReply status g m) := h.formReply ..

/-- An operation on one port. -/
theorem PortsMove.setPort {s : State} {i : PortId} {p : Port} (h : PortMove (s.port i) p) : PortsMove s (s.setPort i p) := by
  refine ⟨fun j => ?_⟩
  by_cases hj : i = j
  · subst hj; simpa using h
  · rw [State.port_setPort_ne s p hj]; exact .refl _

/-- An operation on each port. -/
theorem PortsMove.both {s t : State} (h0 : PortMove s.lp0 t.lp0) (h1 : PortMove s.lp1 t.lp1) : PortsMove s t := by
  refine ⟨fun i => ?_⟩
  cases i
  · exact h0
  · exact h1

/-! ### The frames and accesses around a meaning -/

theorem movesPorts_outside {f : State → State} (h0 : ∀ s, (f s).lp0 = s.lp0) (h1 : ∀ s, (f s).lp1 = s.lp1) : MovesPorts f :=
  fun s => .of_ports (h0 s) (h1 s)

theorem movesPorts_reply {status : ReplyStatus} {payload : State → List Byte} : MovesPorts fun s => formReply status (payload s) s :=
  fun s => (PortsMove.refl s).formReply ..

theorem portsMove_unlessReset {s t : State} {f : State → State} (h : unlessReset s f = .next t) (hf : MovesPorts f) : PortsMove s t := by
  rcases unlessReset_next h with ⟨-, rfl⟩ | ⟨-, rfl⟩
  · exact .refl t
  · exact hf s

theorem movesPorts_judgeFrame {n : Nat} {serve : State → State} (hserve : MovesPorts serve) : MovesPorts (judgeFrame n serve) := by
  intro s
  rcases judgeFrame_cases n serve s with ⟨-, h⟩ | ⟨-, -, h⟩ | ⟨-, -, h⟩ <;> rw [h]
  · exact .refl s
  · exact (hserve _).after_ports rfl rfl
  · exact .of_ports rfl rfl

theorem movesPorts_takeRequest {α : Type} {dec : List Byte → Option α} {rest : List Byte} {serve : α → State → State}
    (hserve : ∀ a, MovesPorts (serve a)) : MovesPorts (takeRequest dec rest serve) := by
  refine movesPorts_judgeFrame fun s => ?_
  split
  · exact (PortsMove.refl s).formReply ..
  · exact hserve _ s

theorem movesPorts_takeOwnRequest {α : Type} {dec : List Byte → Option α} {own : α → Bool} {rest : List Byte}
    {serve : α → State → State} (hserve : ∀ a, MovesPorts (serve a)) : MovesPorts (takeOwnRequest dec own rest serve) := by
  intro s
  unfold takeOwnRequest
  split
  · exact movesPorts_takeRequest hserve s
  · exact .refl s

theorem movesPorts_whenReady {serve : State → State} (hserve : MovesPorts serve) : MovesPorts (whenReady serve) := by
  intro s
  unfold whenReady
  split
  · exact hserve s
  · exact (PortsMove.refl s).formReply ..

theorem movesPorts_access {q : Requester} {f : State → State} (hf : MovesPorts f) : MovesPorts (access q f) := by
  intro s
  rcases access_cases q f s with ⟨-, h⟩ | ⟨-, h⟩ <;> rw [h]
  · exact (hf _).after_ports rfl rfl
  · exact .refl s

/-! ### Uplink Watch (R98, R100) -/

theorem movesPorts_watchStep (us : Vector Uplink 32) : MovesPorts (watchStep us) := by
  intro s
  have hflag : PortsMove s (State.raiseIf { s with uplinks := us } (anyEntered s.uplinks us) flagUplink) :=
    .of_ports (by simp) (by simp)
  unfold watchStep reportLive
  split
  · exact hflag
  · refine hflag.trans (.both ?_ ?_) <;> simp only [resettle_lp0, resettle_lp1] <;> exact .reported ..

theorem movesPorts_stepUplink (u : Fin 32) (f : Uplink → Uplink) : MovesPorts (stepUplink u f) := fun s => movesPorts_watchStep _ s

/-- A step of uplinks, behind a change outside the ports. -/
theorem portsMove_stepUplinks {us : UplinkSet} {f : Fin 32 → Uplink → Uplink} {s m : State} (h0 : m.lp0 = s.lp0) (h1 : m.lp1 = s.lp1) :
    PortsMove s (stepUplinks us f m) := (movesPorts_watchStep _ m).after_ports h0 h1

theorem movesPorts_goodFrame (bits : BitVec 68) : MovesPorts (goodFrame bits) := fun _ => portsMove_stepUplinks (by simp) (by simp)

theorem movesPorts_badFrame : MovesPorts badFrame := fun s => by
  rw [badFrame]; exact .of_ports (by simp) (by simp)

theorem movesPorts_enableScan (period : BitVec 16) : MovesPorts (enableScan period) := by
  intro s
  unfold enableScan
  split
  · exact portsMove_stepUplinks rfl rfl
  · exact .of_ports rfl rfl

theorem movesPorts_disableScan (period : BitVec 16) : MovesPorts (disableScan period) := by
  intro s
  unfold disableScan
  split
  · exact .of_ports rfl rfl
  · exact portsMove_stepUplinks (by simp) (by simp)

/-! ### The Path Table and the Walk Engine (R44, R118) -/

theorem movesPorts_reportChange (g : Nat) (n : Generation) : MovesPorts (reportChange g n) := fun _ =>
  .both (.changed ..) (.changed ..)

/-- A write of a record is outside the ports; its report is not. -/
theorem portsMove_writeReported (g h : Nat) (r : Group) (n : Generation) (s : State) : PortsMove s (reportChange h n (writeGroup g r s)) :=
  (movesPorts_reportChange h n _).after_ports (by simp [writeGroup]) (by simp [writeGroup])

theorem movesPorts_presentGroupRequest (g : Nat) (members : Option (List Member)) (r : GroupRequest) :
    MovesPorts (presentGroupRequest g members r) := by
  refine movesPorts_whenReady fun s => ?_
  split
  · exact (PortsMove.refl s).formReply ..
  · split
    · exact (PortsMove.refl s).formReply ..
    · exact .of_ports rfl rfl

theorem movesPorts_installAccess (f : InstallFields) : MovesPorts (installAccess f) := by
  intro s
  cases hs : (s.group f.group).state with
  | active => rw [installAccess_active hs]; exact (PortsMove.refl s).groupReply ..
  | retiring => rw [installAccess_retiring hs]; exact (PortsMove.refl s).groupReply ..
  | free => rw [installAccess_free hs]; exact (portsMove_writeReported ..).groupReply ..

theorem movesPorts_modifyAccess (f : ModifyFields) : MovesPorts (modifyAccess f) := by
  intro s
  cases href : refusalOf f.expected (s.group f.group) with
  | some status => rw [modifyAccess_refused href]; exact (PortsMove.refl s).groupReply ..
  | none =>
    cases hnew : sameContent (s.group f.group) (modifiedGroup f (s.group f.group) s.settled) with
    | true => rw [modifyAccess_unchanged href hnew]; exact (PortsMove.refl s).groupReply ..
    | false => rw [modifyAccess_changed href hnew]; exact (portsMove_writeReported ..).groupReply ..

theorem movesPorts_completeGroup (g : Nat) : MovesPorts (completeGroup g) := movesPorts_outside (by simp) (by simp)

theorem movesPorts_retireAccess (g : Nat) (expected : Generation) : MovesPorts (retireAccess g expected) := by
  intro s
  cases href : refusalOf expected (s.group g) with
  | some status => rw [retireAccess_refused href]; exact (PortsMove.refl s).groupReply ..
  | none =>
    rw [retireAccess_applied href]
    exact ((portsMove_writeReported ..).trans (movesPorts_completeGroup g _)).groupReply ..

theorem movesPorts_surveyAccess (v : Survey) : MovesPorts (surveyAccess v) := by
  intro s
  unfold surveyAccess
  dsimp only
  split <;> exact .of_ports rfl rfl

theorem movesPorts_rebalance (first count : Nat) : MovesPorts (rebalance first count) := by
  intro s
  unfold rebalance
  split
  · exact (PortsMove.refl s).formReply ..
  · split
    · exact (PortsMove.refl s).formReply ..
    · exact .of_ports (by simp) (by simp)

theorem movesPorts_endJob : MovesPorts endJob := movesPorts_outside (by simp [endJob]) (by simp [endJob])

theorem movesPorts_persist (g : Nat) (map : BucketMap) : MovesPorts (persist g map) := by
  intro s
  rcases persist_cases g map s with ⟨-, h⟩ | ⟨-, h⟩ <;> rw [h]
  · exact .refl s
  · exact (movesPorts_reportChange g _ _).after_ports rfl rfl

theorem movesPorts_uplinkVisit (u : Fin 32) (g : Nat) : MovesPorts (uplinkVisit u g) := by
  intro s
  have hvisit : PortsMove s (countVisit (persist g ((s.group g).effectiveMap s.settled) s)) :=
    (movesPorts_persist g _ s).then_ports rfl rfl
  unfold uplinkVisit
  dsimp only
  split
  · exact hvisit.then_ports rfl rfl
  · exact hvisit.trans (movesPorts_endJob _)

theorem movesPorts_sweepJobVisit (first count next : Nat) : MovesPorts (sweepJobVisit first count next) := by
  intro s
  have hwrite : PortsMove s (sweepWrite next s) := by
    unfold sweepWrite
    split
    · exact movesPorts_persist _ _ s
    · exact .refl s
  have hvisit : PortsMove s (countVisit (sweepWrite next s)) := hwrite.then_ports rfl rfl
  unfold sweepJobVisit
  dsimp only
  split
  · exact hvisit.trans ((movesPorts_endJob _).after_ports rfl rfl)
  · exact hvisit.then_ports rfl rfl

/-! ### The meanings of the ports -/

/-- A port reset before the settled set and a waiting Barrier are looked at: the port emptied, the retirements it frees completed, the
flags set (R91, R128). -/
def resetCompleted (i : PortId) (new : PortState) (s : State) : State :=
  ((completeAll (s.setPort i (resetPort new (s.port i)))).raise flagPort).raiseIf (new == .fault) flagFault

theorem portReset_eq (i : PortId) (new : PortState) (s : State) : portReset i new s =
    barrierCheck (if (s.port i).state = .up then resettle (resetCompleted i new s) else resetCompleted i new s) := by
  have hport : (if new = .fault then { (s.port i).emptied new with counters := { (s.port i).counters with
      faults := satInc (s.port i).counters.faults } } else (s.port i).emptied new) = resetPort new (s.port i) := by
    by_cases hf : new = .fault <;> simp only [hf, resetPort, if_true, if_false] <;> rfl
  rw [resetCompleted, ← hport]
  rfl

theorem portReset_port_eq (i : PortId) (new : PortState) (s : State) : (portReset i new s).port i = resetPort new (s.port i) := by
  rw [portReset_eq]
  split <;> simp [resetCompleted]

/-- A port reset empties its port and leaves the other one. -/
theorem movesPorts_portReset (i : PortId) (new : PortState) : MovesPorts (portReset i new) := by
  refine fun s => ⟨fun j => ?_⟩
  by_cases hj : i = j
  · subst hj
    rw [portReset_port_eq]
    exact .reset new
  · rw [portReset_port_ne new s hj]; exact .refl _

theorem movesPorts_protocolError (i : PortId) : MovesPorts (protocolError i) := by
  intro s
  unfold protocolError
  split
  · exact movesPorts_portReset i .fault s
  · exact .refl s

/-- A DOWN port enters SYNC. -/
theorem portsMove_enterSync {i : PortId} {s : State} (hdown : (s.port i).state = .down) : PortsMove s (enterSync i s) := by
  refine ⟨fun j => ?_⟩
  by_cases hj : i = j
  · subst hj; rw [enterSync_port]; exact .synced _ _ hdown
  · rw [enterSync_port_ne s hj]; exact .refl _

theorem portsMove_syncIfLocked {i : PortId} {s : State} (hdown : (s.port i).state = .down) :
    PortsMove s (if (s.port i).locked then enterSync i s else s) := by
  split
  · exact portsMove_enterSync hdown
  · exact .refl s

/-- The end of a full reset: each lane that held its lock enters SYNC (R112). -/
theorem portsMove_takeHeldLocks {s : State} (h0 : s.lp0.state = .down) (h1 : s.lp1.state = .down) : PortsMove s (takeHeldLocks s) := by
  refine .trans (portsMove_syncIfLocked (i := .lp0) h0) (portsMove_syncIfLocked (i := .lp1) ?_)
  split <;> simpa [enterSync] using h1

theorem movesPorts_fullReset : MovesPorts State.fullReset := fun _ => .both (.fullReset _) (.fullReset _)

theorem movesPorts_readFrame (clocked : Nat) : MovesPorts (readFrame clocked) := by
  intro s
  have hreset (m : Mgmt) : PortsMove s (requestedReset { s with mgmt := m }) :=
    ((movesPorts_fullReset _).trans (portsMove_takeHeldLocks rfl rfl)).after_ports rfl rfl
  unfold readFrame
  split
  · exact .refl s
  · split
    · dsimp only
      split
      · exact (hreset _).then_ports rfl rfl
      · exact .of_ports rfl rfl
    · exact .of_ports rfl rfl

theorem portsMove_lock (i : PortId) (b : Bool) (s : State) : PortsMove s (s.setPort i { s.port i with locked := b }) :=
  .setPort (.lock b)

theorem movesPorts_serveResolve (i : PortId) : MovesPorts (serveResolve i) := by
  intro s
  cases hfind : (s.port i).answers.find? ResolveEntry.unserved with
  | none => simp only [serveResolve, hfind]; exact .refl s
  | some e => rw [serveResolve_eq hfind]; exact .setPort (.served _ _ hfind)

theorem portsMove_takeRetractDone {i : PortId} {s : State} (e : RetractEntry) (hup : (s.port i).state = .up) :
    PortsMove s (takeRetractDone i e s) := by
  have hport : PortsMove s (s.setPort i (retractDonePort s.ackTimeout (s.port i))) := .setPort (.retractDone _ hup)
  exact hport.then_ports (by simp [takeRetractDone, retractDonePort]) (by simp [takeRetractDone, retractDonePort])

theorem portsMove_ackTaken {i : PortId} {s : State} (v : DownVector) (hserves : (s.port i).serves = true) :
    PortsMove s (ackTaken i v s) := by
  refine ⟨fun j => ?_⟩
  by_cases hj : i = j
  · subst hj; rw [ackTaken_port]; exact .acked _ _ _ hserves
  · rw [ackTaken_port_ne v s hj]; exact .refl _

/-! ### Every command -/

theorem portsMove_resolve {i : PortId} {index : BitVec 16} {s t : State} (h : execResolve i index s = .next t) : PortsMove s t := by
  refine portsMove_unlessReset h fun s => ?_
  dsimp only
  split
  · exact .refl s
  next hserves =>
    split
    · exact movesPorts_protocolError i s
    next hroom => exact .setPort (.resolved _ _ (by simpa using hserves) (by omega))

theorem portsMove_vectorAck {i : PortId} {sequence : Byte} {s t : State} (h : execVectorAck i sequence s = .next t) :
    PortsMove s t := by
  refine portsMove_unlessReset h fun s => ?_
  dsimp only
  split
  · exact .refl s
  next hserves =>
    split
    · exact movesPorts_protocolError i s
    · split
      · exact movesPorts_protocolError i s
      · exact portsMove_ackTaken _ (by simpa using hserves)

theorem portsMove_retractDone {i : PortId} {group : BitVec 16} {s t : State} (h : execRetractDone i group s = .next t) :
    PortsMove s t := by
  refine portsMove_unlessReset h fun s => ?_
  dsimp only
  split
  next hup =>
    split
    · exact movesPorts_protocolError i s
    · split
      · exact portsMove_takeRetractDone _ hup
      · exact movesPorts_protocolError i s
  · exact movesPorts_protocolError i s
  · exact .refl s
  · exact .refl s

/-- A message that is an error under some condition. -/
theorem portsMove_laneError {p : State → Prop} [DecidablePred p] {i : PortId} {s t : State}
    (h : unlessReset s (fun s => if p s then protocolError i s else s) = .next t) : PortsMove s t := by
  refine portsMove_unlessReset h fun s => ?_
  split
  · exact movesPorts_protocolError i s
  · exact .refl s

theorem portsMove_ackTimerExpiry {i : PortId} {s t : State} (h : execAckTimerExpiry i s = .next t) : PortsMove s t := by
  refine portsMove_unlessReset h fun s => ?_
  split
  · exact .refl s
  · exact movesPorts_protocolError i s

theorem portsMove_answerLeaves {i : PortId} {s t : State} (h : execAnswerLeaves i s = .next t) : PortsMove s t := by
  refine portsMove_unlessReset h fun s => ?_
  split
  next ht => exact .setPort (.answerLeft ht)
  next => exact .refl s

theorem portsMove_messageLeaves {i : PortId} {s t : State} (h : execMessageLeaves i s = .next t) : PortsMove s t := by
  refine portsMove_unlessReset h fun s => ?_
  split
  · exact .refl s
  · exact .refl s
  next m messages hm ht =>
    refine .setPort (.messageLeft _ ?_ ht)
    cases m with
    | answer a => exact absurd rfl (hm a)
    | retract | downVector => rfl

theorem portsMove_laneLockGained {i : PortId} {s t : State} (h : execLaneLockGained i s = .next t) : PortsMove s t := by
  cases h
  split
  · exact portsMove_lock i true s
  · split
    next hdown => exact (portsMove_lock i true s).trans (portsMove_enterSync (by simpa using hdown))
    next => exact portsMove_lock i true s

theorem portsMove_laneLockLost {i : PortId} {s t : State} (h : execLaneLockLost i s = .next t) : PortsMove s t := by
  cases h
  split
  · exact portsMove_lock i false s
  · split
    · exact portsMove_lock i false s
    · exact (portsMove_lock i false s).trans (movesPorts_portReset i .down _)

theorem portsMove_scanFrameStart {s t : State} (h : execScanFrameStart s = .next t) : PortsMove s t := by
  refine portsMove_unlessReset h fun s => ?_
  split
  · exact .refl s
  · exact .of_ports rfl rfl

theorem portsMove_scanFrameJudged {bits : BitVec 68} {s t : State} (h : execScanFrameJudged bits s = .next t) : PortsMove s t := by
  refine portsMove_unlessReset h fun s => ?_
  split
  · exact .refl s
  · split
    · exact movesPorts_goodFrame bits s
    · exact movesPorts_badFrame s

theorem portsMove_installGroup {stage : AccessStage} {s t : State} (h : execInstallGroup stage s = .next t) : PortsMove s t := by
  refine portsMove_unlessReset h fun s => ?_
  split
  · exact movesPorts_takeRequest (fun f => movesPorts_presentGroupRequest _ _ _) s
  · split
    · exact movesPorts_access (movesPorts_installAccess _) s
    · exact .refl s

theorem portsMove_modifyGroup {stage : AccessStage} {s t : State} (h : execModifyGroup stage s = .next t) : PortsMove s t := by
  refine portsMove_unlessReset h fun s => ?_
  split
  · exact movesPorts_takeRequest (fun f => movesPorts_presentGroupRequest _ _ _) s
  · split
    · exact movesPorts_access (movesPorts_modifyAccess _) s
    · exact .refl s

theorem portsMove_retireGroup {stage : AccessStage} {s t : State} (h : execRetireGroup stage s = .next t) : PortsMove s t := by
  refine portsMove_unlessReset h fun s => ?_
  split
  · exact movesPorts_takeRequest (fun f => movesPorts_presentGroupRequest _ _ _) s
  · split
    · exact movesPorts_access (movesPorts_retireAccess _ _) s
    · exact .refl s

theorem portsMove_readGroup {stage : AccessStage} {s t : State} (h : execReadGroup stage s = .next t) : PortsMove s t := by
  refine portsMove_unlessReset h fun s => ?_
  split
  · exact movesPorts_takeRequest (fun f => movesPorts_presentGroupRequest _ _ _) s
  · split
    · exact movesPorts_access movesPorts_reply s
    · exact .refl s

theorem portsMove_rangeSurvey {rest : List Byte} {s t : State} (h : execRangeSurvey rest s = .next t) : PortsMove s t := by
  refine portsMove_unlessReset h (movesPorts_takeRequest fun f => movesPorts_whenReady fun s => ?_)
  split <;> exact .of_ports rfl rfl

theorem portsMove_rangeSurveyAccess {s t : State} (h : execRangeSurveyAccess s = .next t) : PortsMove s t := by
  refine portsMove_unlessReset h fun s => ?_
  split
  · exact movesPorts_access (movesPorts_surveyAccess _) s
  · exact .refl s

theorem portsMove_uplinkJobVisit {s t : State} (h : execUplinkJobVisit s = .next t) : PortsMove s t := by
  refine portsMove_unlessReset h fun s => ?_
  split
  · exact movesPorts_access (movesPorts_uplinkVisit _ _) s
  · exact .refl s

theorem portsMove_closingAccess {s t : State} (h : execClosingAccess s = .next t) : PortsMove s t := by
  refine portsMove_unlessReset h fun s => ?_
  split
  · exact movesPorts_access movesPorts_endJob s
  · exact .refl s

theorem portsMove_sweepVisit {s t : State} (h : execSweepVisit s = .next t) : PortsMove s t := by
  refine portsMove_unlessReset h fun s => ?_
  split
  · exact movesPorts_access (movesPorts_sweepJobVisit _ _ _) s
  · exact .refl s

theorem portsMove_barrierTimerExpiry {s t : State} (h : execBarrierTimerExpiry s = .next t) : PortsMove s t := by
  refine portsMove_unlessReset h fun s => ?_
  split
  · split <;> exact .of_ports rfl rfl
  · exact .refl s

theorem portsMove_unknownRequestKind {kind : Byte} {rest : List Byte} {s t : State}
    (h : execUnknownRequestKind kind rest s = .next t) : PortsMove s t := by
  refine portsMove_unlessReset h fun s => ?_
  split
  · exact movesPorts_judgeFrame movesPorts_reply s
  · exact .refl s

theorem portsMove_requestDropped {frame : List Byte} {s t : State} (h : execRequestDropped frame s = .next t) : PortsMove s t := by
  refine portsMove_unlessReset h fun s => ?_
  split
  · exact movesPorts_judgeFrame PortsMove.refl s
  · exact .refl s

theorem portsMove_initSweepEnd {s t : State} (h : execInitSweepEnd s = .next t) : PortsMove s t := by
  refine portsMove_unlessReset h fun s => ?_
  split
  · exact .refl s
  · exact .of_ports rfl rfl

/-- Every command moves each port by its operations; PORST_N rises over ports that the full reset left DOWN. -/
theorem exec_portsMove (c : Instr) {s t : State} (h : exec c s = .next t) (hheld : HeldInReset s) : PortsMove s t := by
  cases c with
  | porstNAssert =>
    cases h
    split
    · exact .refl s
    · exact (movesPorts_fullReset s).then_ports rfl rfl
  | porstNRelease =>
    cases h
    split
    next hlow =>
      refine (portsMove_takeHeldLocks ?_ ?_).after_ports rfl rfl
      · show s.lp0.state = .down
        rw [hheld hlow]; rfl
      · show s.lp1.state = .down
        rw [hheld hlow]; rfl
    · exact .refl s
  | filteredLineLevelChange u level => exact portsMove_unlessReset h (movesPorts_stepUplink u _)
  | scanFrameStart => exact portsMove_scanFrameStart h
  | scanFrameJudged bits => exact portsMove_scanFrameJudged h
  | qualifyTimerExpiry u => exact portsMove_unlessReset h (movesPorts_stepUplink u _)
  | restoreTimerExpiry u => exact portsMove_unlessReset h (movesPorts_stepUplink u _)
  | holdTimerExpiry u => exact portsMove_unlessReset h (movesPorts_stepUplink u _)
  | windowTimerExpiry u => exact portsMove_unlessReset h (movesPorts_stepUplink u _)
  | configureUplink rest =>
    exact portsMove_unlessReset h (movesPorts_takeRequest fun f s => (movesPorts_stepUplink f.1 _ s).formReply ..)
  | setAdminClear rest =>
    exact portsMove_unlessReset h (movesPorts_takeOwnRequest fun f s => (portsMove_stepUplinks (m := s) rfl rfl).formReply ..)
  | setAdminSet rest =>
    exact portsMove_unlessReset h (movesPorts_takeOwnRequest fun f s => (portsMove_stepUplinks (m := s) rfl rfl).formReply ..)
  | configureScanEnable rest =>
    exact portsMove_unlessReset h (movesPorts_takeOwnRequest fun f s => (movesPorts_enableScan f.2 s).formReply ..)
  | configureScanDisable rest =>
    exact portsMove_unlessReset h (movesPorts_takeOwnRequest fun f s => (movesPorts_disableScan f.2 s).formReply ..)
  | readUplink rest => exact portsMove_unlessReset h (movesPorts_takeRequest fun _ => movesPorts_reply)
  | installGroup stage => exact portsMove_installGroup h
  | modifyGroup stage => exact portsMove_modifyGroup h
  | retireGroup stage => exact portsMove_retireGroup h
  | readGroup stage => exact portsMove_readGroup h
  | rangeSurvey rest => exact portsMove_rangeSurvey h
  | rangeSurveyAccess => exact portsMove_rangeSurveyAccess h
  | rebalanceRange rest =>
    exact portsMove_unlessReset h (movesPorts_takeRequest fun f => movesPorts_whenReady (movesPorts_rebalance _ _))
  | uplinkJobVisit => exact portsMove_uplinkJobVisit h
  | closingAccess => exact portsMove_closingAccess h
  | sweepVisit => exact portsMove_sweepVisit h
  | barrier rest =>
    exact portsMove_unlessReset h (movesPorts_takeRequest fun f => movesPorts_whenReady
      (movesPorts_outside (by simp [takeBarrier]) (by simp [takeBarrier])))
  | barrierTimerExpiry => exact portsMove_barrierTimerExpiry h
  | identify rest => exact portsMove_unlessReset h (movesPorts_takeRequest fun _ => movesPorts_reply)
  | readStatus rest => exact portsMove_unlessReset h (movesPorts_takeRequest fun _ => movesPorts_reply)
  | configurePorts rest => exact portsMove_unlessReset h (movesPorts_takeRequest fun _ _ => .of_ports rfl rfl)
  | readEvents rest => exact portsMove_unlessReset h (movesPorts_takeRequest fun _ _ => .of_ports rfl rfl)
  | setEventEnablesSet rest => exact portsMove_unlessReset h (movesPorts_takeOwnRequest fun _ _ => .of_ports rfl rfl)
  | setEventEnablesClear rest => exact portsMove_unlessReset h (movesPorts_takeOwnRequest fun _ _ => .of_ports rfl rfl)
  | readCounters rest => exact portsMove_unlessReset h (movesPorts_takeOwnRequest fun _ => movesPorts_reply)
  | readCountersClear rest =>
    exact portsMove_unlessReset h (movesPorts_takeOwnRequest fun _ _ => .both (.counters _) (.counters _))
  | fullResetRequest rest => exact portsMove_unlessReset h (movesPorts_takeRequest fun _ _ => .of_ports rfl rfl)
  | unknownRequestKind kind rest => exact portsMove_unknownRequestKind h
  | requestDropped frame => exact portsMove_requestDropped h
  | readFrame clocked => exact portsMove_unlessReset h (movesPorts_readFrame clocked)
  | mrstNAssert => cases h; exact .of_ports rfl rfl
  | mrstNRelease => cases h; exact .of_ports rfl rfl
  | initSweepEnd => exact portsMove_initSweepEnd h
  | laneLockGained i => exact portsMove_laneLockGained h
  | laneLockLost i => exact portsMove_laneLockLost h
  | resolve i index => exact portsMove_resolve h
  | resolveAccess i => exact portsMove_unlessReset h (movesPorts_access (movesPorts_serveResolve i))
  | vectorAck i sequence => exact portsMove_vectorAck h
  | retractDone i group => exact portsMove_retractDone h
  | unknownKind i bytes => exact portsMove_laneError (p := fun _ => decodeLane bytes = .unknown) h
  | ackTimerExpiry i => exact portsMove_ackTimerExpiry h
  | answerLeaves i => exact portsMove_answerLeaves h
  | messageLeaves i => exact portsMove_messageLeaves h
  | wrongLengthMessage i bytes => exact portsMove_laneError (p := fun _ => decodeLane bytes = .wrongLength) h

/-- `PortsInv` port by port. -/
theorem portsInv_iff (s : State) : PortsInv s ↔ HeldInReset s ∧ ∀ i, PortOk (s.port i) := by
  constructor
  · rintro ⟨hheld, hanswers, hack, hquiet, htransmit⟩
    refine ⟨hheld, fun i => ?_⟩
    cases i
    · exact ⟨hanswers.1, hack.1, hquiet.1, htransmit.1⟩
    · exact ⟨hanswers.2, hack.2, hquiet.2, htransmit.2⟩
  · rintro ⟨hheld, hport⟩
    obtain ⟨hanswers0, hack0, hquiet0, htransmit0⟩ := hport .lp0
    obtain ⟨hanswers1, hack1, hquiet1, htransmit1⟩ := hport .lp1
    exact ⟨hheld, ⟨hanswers0, hanswers1⟩, ⟨hack0, hack1⟩, ⟨hquiet0, hquiet1⟩, htransmit0, htransmit1⟩

/-- Settles O6: every operation on a port keeps it in order, and every command is made of these. -/
theorem portsStayInOrder : Obligations.PortsStayInOrder := by
  intro s t hs h
  rw [portsInv_iff] at hs ⊢
  obtain ⟨hheld, hport⟩ := hs
  refine ⟨heldInReset_kept s t hheld h, ?_⟩
  rcases step_cases h with rfl | ⟨c, rest, hexec⟩
  · exact hport
  · have hheld' : HeldInReset { s with pending := rest } := fun hp => congrArg (fun r : State => { r with pending := rest }) (hheld hp)
    exact fun i => ((exec_portsMove c hexec hheld').port i).keeps_portOk (by cases i <;> [exact hport .lp0; exact hport .lp1])

end Sys2Proof.Proofs
end

section
/-! PROOFS. The lane's lock, the protocol errors and the acknowledgement of a Down Vector (R90, R92, R99, R105, R107; O38, O40, O43). -/
namespace Sys2Proof.Proofs
open Sys2Proof.Machine Sys2Proof.Safety Sys2Proof.Claims

@[simp] theorem State.setPort_setPort (s : State) (i : PortId) (p q : Port) : (s.setPort i p).setPort i q = s.setPort i q := by
  cases i <;> rfl

theorem raise_eq_flagged (s : State) (f : Byte) : s.raise f = flagged f s := rfl

/-! ### Lane lock (R90) -/

/-- Settles O38: out of DOWN the port forms its vector in SYNC; elsewhere the lock alone is written. -/
theorem lockGainedEntersSync : Obligations.LockGainedEntersSync := by
  rintro i s p rfl
  refine ⟨fun hrun hdown => ?_, fun hkept => ?_⟩
  · simp only [exec, execLaneLockGained, hrun, hdown, Bool.false_eq_true, if_true, if_false, enterSync, State.port_setPort,
      State.setPort_setPort, State.setPort_live, State.setPort_ackTimeout, formVector_eq, raise_eq_flagged]
    rfl
  · simp only [exec, execLaneLockGained]
    rcases hkept with hlow | hup
    · rw [if_pos hlow]
    · rw [if_neg hup, ite_self]

/-! ### Protocol errors (R107) -/

theorem protocolError_serving {i : PortId} {s : State} (h : (s.port i).serves = true) : protocolError i s = portReset i .fault s :=
  if_pos h

theorem protocolError_quiet {i : PortId} {s : State} (h : (s.port i).serves = false) : protocolError i s = s :=
  if_neg (by simp [h])

section Serving
variable {i : PortId} {s : State} (hrun : Runs s) (hserves : (s.port i).serves = true)
include hrun hserves

/-- A Vector Ack that matches no outstanding vector (R99). -/
theorem exec_vectorAck_unmatched {n : Byte} (h : ∀ v, (s.port i).outstanding = some v → v.sequence ≠ n) :
    exec (.vectorAck i n) s = .next (portReset i .fault s) := by
  simp only [exec, execVectorAck, unlessReset_runs hrun, hserves, Bool.not_true, Bool.false_eq_true, if_false]
  split
  · rw [protocolError_serving hserves]
  next v hv => rw [if_pos (h v hv), protocolError_serving hserves]

theorem exec_vectorAck_matched {v : DownVector} (h : (s.port i).outstanding = some v) :
    exec (.vectorAck i v.sequence) s = .next (ackTaken i v s) := by
  simp only [exec, execVectorAck, unlessReset_runs hrun, hserves, Bool.not_true, Bool.false_eq_true, if_false, h, ne_eq,
    not_true_eq_false]
  rfl

/-- A Retract Done in SYNC, or one that does not name the group of the oldest SENT entry (R124). -/
theorem exec_retractDone_unmatched {g : BitVec 16} (h : (s.port i).state = .sync ∨
    ∀ e, (s.port i).retracts.find? (fun e => e.mark = .sent) = some e → e.group ≠ g.toNat) :
    exec (.retractDone i g) s = .next (portReset i .fault s) := by
  simp only [exec, execRetractDone, unlessReset_runs hrun]
  split
  next hup =>
    split
    · rw [protocolError_serving hserves]
    next e he =>
      have hother : e.group ≠ g.toNat := by
        rcases h with hsync | hother
        · simp [hup] at hsync
        · exact hother e he
      rw [if_neg hother, protocolError_serving hserves]
  next => rw [protocolError_serving hserves]
  next hdown => simp [Port.serves, hdown] at hserves
  next hfault => simp [Port.serves, hfault] at hserves

theorem exec_resolve_full {x : BitVec 16} (h : 64 ≤ (s.port i).answers.length) :
    exec (.resolve i x) s = .next (portReset i .fault s) := by
  have hfull : Config.maxAnswers ≤ (s.port i).answers.length := h
  simp only [exec, execResolve, unlessReset_runs hrun, hserves, Bool.not_true, Bool.false_eq_true, if_false, if_pos hfull,
    protocolError_serving hserves]

end Serving

/-- A port in DOWN or FAULT discards what arrives, and its timer does not expire (R92, log 3). -/
theorem exec_quiet {i : PortId} {s : State} (hrun : Runs s) (h : (s.port i).serves = false) (n : Byte) (x : BitVec 16)
    (bytes : List Byte) : exec (.vectorAck i n) s = .next s ∧ exec (.retractDone i x) s = .next s ∧ exec (.resolve i x) s = .next s ∧
      exec (.unknownKind i bytes) s = .next s ∧ exec (.wrongLengthMessage i bytes) s = .next s ∧
      exec (.ackTimerExpiry i) s = .next s := by
  have herror := protocolError_quiet h
  refine ⟨?_, ?_, ?_, ?_, ?_, ?_⟩
  · simp only [exec, execVectorAck, unlessReset_runs hrun, h, Bool.not_false, if_true]
  · rcases (not_serves_iff _).mp h with hstate | hstate <;> simp only [exec, execRetractDone, unlessReset_runs hrun, hstate]
  · simp only [exec, execResolve, unlessReset_runs hrun, h, Bool.not_false, if_true]
  · simp only [exec, execUnknownKind, unlessReset_runs hrun, herror, ite_self]
  · simp only [exec, execWrongLengthMessage, unlessReset_runs hrun, herror, ite_self]
  · simp only [exec, execAckTimerExpiry, unlessReset_runs hrun, herror, ite_self]

/-! ### The kinds and lengths of lane messages (R169) -/

/-- A kind byte outside 01h to 03h, or no byte at all. -/
theorem decodeLane_unknown_iff (bytes : List Byte) : decodeLane bytes = .unknown ↔
    bytes = [] ∨ ∃ k, bytes.head? = some k ∧ k ≠ 0x01#8 ∧ k ≠ 0x02#8 ∧ k ≠ 0x03#8 := by
  cases bytes with
  | nil => simp [decodeLane]
  | cons k b =>
    simp only [decodeLane]
    split_ifs with h1 h2 h3
    · split <;> simp [h1]
    · split <;> simp [h2]
    · split <;> simp [h3]
    · simp [h1, h2, h3]

/-- A known kind byte with another length than its kind's. -/
theorem decodeLane_wrongLength_iff (bytes : List Byte) : decodeLane bytes = .wrongLength ↔
    (bytes.head? = some 0x01#8 ∨ bytes.head? = some 0x02#8) ∧ bytes.length ≠ 3 ∨
      bytes.head? = some 0x03#8 ∧ bytes.length ≠ 2 := by
  cases bytes with
  | nil => simp [decodeLane]
  | cons k b =>
    simp only [decodeLane]
    split_ifs with h1 h2 h3
    · rcases b with _ | ⟨_, _ | ⟨_, _ | ⟨_, _⟩⟩⟩ <;> simp [h1]
    · rcases b with _ | ⟨_, _ | ⟨_, _ | ⟨_, _⟩⟩⟩ <;> simp [h2]
    · rcases b with _ | ⟨_, _ | ⟨_, _⟩⟩ <;> simp [h3]
    · simp [h1, h2, h3]

/-- Settles O40: each error is met where its command is taken, and goes to `protocolError`. -/
theorem protocolErrorsFaultThePort : Obligations.ProtocolErrorsFaultThePort := by
  rintro i s hrun p rfl
  refine ⟨fun hstate => ?_, fun hstate n x bytes => exec_quiet hrun ((not_serves_iff _).mpr hstate) n x bytes,
    fun bytes => ⟨decodeLane_unknown_iff bytes, decodeLane_wrongLength_iff bytes⟩⟩
  have hserves := (serves_iff _).mpr hstate
  have herror := protocolError_serving hserves
  refine ⟨fun n h => exec_vectorAck_unmatched hrun hserves h, fun g h => exec_retractDone_unmatched hrun hserves h,
    fun bytes h => ?_, fun bytes h => ?_, fun x h => exec_resolve_full hrun hserves h, fun h => ?_⟩
  · simp only [exec, execUnknownKind, unlessReset_runs hrun, h, if_true, herror]
  · simp only [exec, execWrongLengthMessage, unlessReset_runs hrun, h, if_true, herror]
  · simp only [exec, execAckTimerExpiry, unlessReset_runs hrun, if_neg h, herror]

/-! ### A matching Vector Ack (R99) -/

/-- With the pending flag set a new vector is formed, and the timer is restarted for it. -/
theorem acknowledge_pending {p : Port} (v : DownVector) (live : UplinkSet) (timeout : Byte) (h : p.pendingFlag = true) :
    p.acknowledge v live timeout =
      { p with ackUp := ~~~v.notLive &&& live, pendingFlag := false
               nextSeq := if p.nextSeq = 255#8 then 1#8 else p.nextSeq + 1#8, ackTimer := .running (timeout.toNat * 100)
               outstanding := some { sequence := p.nextSeq, notLive := ~~~live }
               transmit := p.transmit ++ [.downVector { sequence := p.nextSeq, notLive := ~~~live }] } := by
  simp [Port.acknowledge, h, formVector_eq, Port.rearmAckTimer, Port.awaitsAck, ackTime]

/-- With it clear the port is in UP, and the timer runs on for the SENT entries alone. -/
theorem acknowledge_clear {p : Port} (v : DownVector) (live : UplinkSet) (timeout : Byte) (h : p.pendingFlag = false)
    (hstate : p.state = .sync ∨ p.state = .up) : p.acknowledge v live timeout =
      { p with ackUp := ~~~v.notLive &&& live, outstanding := none, pendingFlag := false, state := .up
               ackTimer := if (p.retracts.any fun e => e.mark = .sent) = true then .running (timeout.toNat * 100) else .stopped } := by
  rcases hstate with hs | hs <;> simp [Port.acknowledge, h, hs, Port.rearmAckTimer, Port.awaitsAck, ackTime, Bool.beq_eq_decide_eq]

theorem raiseIf_not {s : State} {c : Bool} {f : Byte} (h : c = false) : s.raiseIf c f = s := by rw [h]; rfl

/-- A port that lets its whole live set in moves nothing by entering UP. -/
theorem settledOf_enterUp {s : State} {i : PortId} {q : Port} (hup : q.state = .up) (hadmits : q.ackUp = s.live)
    (hnot : (s.port i).state ≠ .up) :
    settledOf s.live (s.setPort i q).lp0 (s.setPort i q).lp1 = settledOf s.live s.lp0 s.lp1 := by
  have hq : q.admits = s.live := by simp [Port.admits, hup, hadmits]
  have hp := admits_of_not_up hnot
  cases i with
  | lp0 =>
    have hp : s.lp0.admits = BitVec.allOnes 32 := hp
    simp only [settledOf, State.setPort_lp0_lp0, State.setPort_lp0_lp1, hq, hp, BitVec.and_allOnes, BitVec.and_self]
  | lp1 =>
    have hp : s.lp1.admits = BitVec.allOnes 32 := hp
    simp only [settledOf, State.setPort_lp1_lp0, State.setPort_lp1_lp1, hq, hp, BitVec.and_allOnes]
    rw [BitVec.and_assoc, BitVec.and_comm _ s.live, ← BitVec.and_assoc, BitVec.and_self]

/-- Settles O43: the two cases of the pending flag, and in SYNC the vector that names what is not live. -/
theorem matchingVectorAcksAreTaken : Obligations.MatchingVectorAcksAreTaken := by
  rintro i s hrun p rfl hstate
  have hserves := (serves_iff _).mpr hstate
  refine ⟨fun n h => exec_vectorAck_unmatched hrun hserves h, fun v hv p1 hp1 restarted hrestarted => ⟨fun hpending q hq => ?_,
    fun hclear q hq => ?_⟩⟩
  · have hport : (s.port i).acknowledge v s.live s.ackTimeout = q := by
      rw [acknowledge_pending _ _ _ hpending, hq, hp1, hrestarted]
    have hsame : q.state = (s.port i).state := by rw [hq, hp1]
    have htaken : exec (.vectorAck i v.sequence) s = .next (if q.state = .up then resettle (s.setPort i q) else s.setPort i q) := by
      rw [exec_vectorAck_matched hrun hserves hv, ackTaken, hport]
      simp only [raiseIf_not (bne_eq_false_iff_eq.mpr hsame)]
    exact ⟨fun hsync => by rw [htaken, if_neg (by simp [hsame, hsync])], fun hup => by rw [htaken, if_pos (hsame.trans hup)]⟩
  · have hport : (s.port i).acknowledge v s.live s.ackTimeout = q := by
      rw [acknowledge_clear _ _ _ hclear hstate, hq, hp1, hrestarted]
    have hup : q.state = .up := by rw [hq]
    have htaken : exec (.vectorAck i v.sequence) s =
        .next (resettle ((s.setPort i q).raiseIf (q.state != (s.port i).state) flagPort)) := by
      rw [exec_vectorAck_matched hrun hserves hv, ackTaken, hport, if_pos hup]
    refine ⟨fun hwas => ?_, fun hsync => ?_⟩
    · rw [htaken, raiseIf_not (by simp [hup, hwas])]
    · have hentered : exec (.vectorAck i v.sequence) s = .next (resettle (flagged 0x08#8 (s.setPort i q))) := by
        rw [htaken, hup, hsync]
        rfl
      refine ⟨hentered, fun hinv => ?_⟩
      obtain ⟨-, hwatch⟩ := (settledInv_iff s).mp hinv
      have hnamed : v.notLive = ~~~s.live := (hwatch.port i).vector hserves hclear v hv
      have hadmits : q.ackUp = s.live := by rw [hq, hp1]; simp [hnamed]
      refine ⟨hadmits, fun t ht => ?_⟩
      cases hentered.symm.trans ht
      rw [resettle_settled, hwatch.settled, ← settledOf_enterUp (i := i) hup hadmits (by simp [hsync])]
      cases i <;> rfl

end Sys2Proof.Proofs
end

section
/-! PROOFS. A Resolve from its arrival to its Answer, and the messages that leave (R93 to R97, R168, R169; O41, O42, O45). -/
namespace Sys2Proof.Proofs
open Sys2Proof.Machine Sys2Proof.Safety Sys2Proof.Claims

/-! ### A Resolve at its arrival (R94) -/

/-- Nothing joins while the first entry that has not joined has no Answer. -/
theorem joinReady_waits {p : Port} {first rest : List ResolveEntry} (hsplit : p.answers = first ++ rest)
    (hfirst : ∀ e ∈ first, e.joined = true) (hrest : ∀ e, rest.head? = some e → e.joined = false ∧ e.answer = none) :
    p.joinReady = p := by
  rw [joinReady_eq (ready := []) (by rw [hsplit, List.append_nil]) hfirst (by simp) hrest]
  simp only [List.map_nil, List.filterMap_nil, List.append_nil, ← hsplit]

/-- An appended entry does not join when it has no Answer, or stands behind an entry that has not joined. -/
theorem joinReady_appended_waits {p q : Port} {e : ResolveEntry} (h : TransmitOk p) (hq : q.answers = p.answers ++ [e])
    (hjoined : e.joined = false) (hwaits : e.answer = none ∨ ¬ (p.answers.all fun d => d.joined) = true) : q.joinReady = q := by
  obtain ⟨⟨first, rest, ⟨hsplit, hfirst, hwaiting, -⟩, hhead⟩, -⟩ := (transmitOk_iff p).mp h
  refine joinReady_waits (first := first) (rest := rest ++ [e]) (by rw [hq, hsplit, List.append_assoc]) (fun d hd => (hfirst d hd).1)
    fun d hd => ?_
  cases rest with
  | nil =>
    cases hd
    refine ⟨hjoined, hwaits.resolve_right fun hall => hall ?_⟩
    rw [hsplit, List.append_nil]
    exact List.all_eq_true.mpr fun c hc => (hfirst c hc).1
  | cons c rest =>
    cases hd
    exact ⟨hwaiting d List.mem_cons_self, hhead d rfl⟩

/-- An appended entry with its Answer joins at once when every entry ahead of it has. -/
theorem joinReady_appended_joins {p q : Port} {e : ResolveEntry} {a : Answer} (hq : q.answers = p.answers ++ [e])
    (hjoined : e.joined = false) (ha : e.answer = some a) (hall : (p.answers.all fun d => d.joined) = true) :
    q.joinReady = { q with answers := p.answers ++ [markJoined e], transmit := q.transmit ++ [.answer a] } := by
  rw [joinReady_eq (first := p.answers) (ready := [e]) (rest := []) (by rw [hq, List.append_nil]) (by simpa using hall)
    (by simp [hjoined, ha]) (by simp)]
  simp [ha]

/-- A Resolve answered at its arrival. -/
theorem appendResolve_short {p : Port} {ready : Bool} {x : BitVec 16} {st : AnswerStatus} (h : TransmitOk p)
    (hs : arrivalStatus p ready x = some st) : p.appendResolve ready x =
      if (p.answers.all fun e => e.joined) = true then
        { p with answers := p.answers ++ [{ index := x, needsAccess := false, joined := true
                                            answer := some { index := x, status := st, body := none } }]
                 transmit := p.transmit ++ [.answer { index := x, status := st, body := none }] }
      else
        { p with answers := p.answers ++ [{ index := x, needsAccess := false, joined := false
                                            answer := some { index := x, status := st, body := none } }] } := by
  simp only [Port.appendResolve, hs, Option.isNone_some, Option.map_some, Bool.false_eq_true, if_false]
  split
  next hall => rw [joinReady_appended_joins rfl rfl rfl hall]; rfl
  next hnot => rw [joinReady_appended_waits h rfl rfl (.inr hnot)]; rfl

/-- A Resolve that takes an access waits for it. -/
theorem appendResolve_access {p : Port} {ready : Bool} {x : BitVec 16} (h : TransmitOk p) (hs : arrivalStatus p ready x = none) :
    p.appendResolve ready x =
      { p with unanswered := p.unanswered + 1
               answers := p.answers ++ [{ index := x, needsAccess := true, answer := none, joined := false }] } := by
  simp only [Port.appendResolve, hs, Option.isNone_none, Option.map_none, if_true]
  exact joinReady_appended_waits h rfl rfl (.inl rfl)

theorem exec_resolve_taken {i : PortId} {x : BitVec 16} {s : State} (hrun : Runs s) (hserves : (s.port i).serves = true)
    (hroom : (s.port i).answers.length < 64) :
    exec (.resolve i x) s = .next (s.setPort i ((s.port i).appendResolve s.table.ready x)) := by
  have hroom' : ¬ Config.maxAnswers ≤ (s.port i).answers.length := Nat.not_le.mpr hroom
  simp only [exec, execResolve, unlessReset_runs hrun, hserves, Bool.not_true, Bool.false_eq_true, if_false, if_neg hroom']

/-- Settles O41: the row of R94 that applies is the status at arrival. -/
theorem resolvesAreTakenInOrder : Obligations.ResolvesAreTakenInOrder := by
  rintro i x s hrun p rfl hstate
  have hserves := (serves_iff _).mpr hstate
  refine ⟨fun hfull => exec_resolve_full hrun hserves hfull, fun hroom htransmit short hshort => ?_⟩
  rw [exec_resolve_taken hrun hserves hroom]
  have htaken (st : AnswerStatus) (hs : arrivalStatus (s.port i) s.table.ready x = some st) :
      s.setPort i ((s.port i).appendResolve s.table.ready x) = s.setPort i (short st) := by
    rw [appendResolve_short htransmit hs, hshort]
  refine ⟨fun h => ?_, fun hup hready hrange => ?_, fun hup hready hrange hbusy => ?_, fun hup hready hrange hfree => ?_⟩
  · rw [htaken .notReady]
    rcases h with hsync | hinit
    · simp [arrivalStatus, hsync]
    · simp [arrivalStatus, hinit]
  · rw [htaken .badGroup (by simp [arrivalStatus, hup, hready, Config.groups, hrange])]
  · rw [htaken .busy (by simp [arrivalStatus, hup, hready, Config.groups, Config.maxUnanswered, Nat.not_le.mpr hrange, hbusy])]
  · rw [appendResolve_access htransmit
      (by simp [arrivalStatus, hup, hready, Config.groups, Config.maxUnanswered, Nat.not_le.mpr hrange, Nat.not_le.mpr hfree])]

/-! ### The access of a Resolve (R95, R96, R115) -/

/-- Translation position by position (R61). -/
theorem translatesByMember : TranslatesByMember := fun ms map =>
  ⟨List.length_map _, fun b => ⟨fun h => by simp [Machine.translate, h, translateBucket],
    fun p m hb hm => by simp [Machine.translate, hb, translateBucket, hm]⟩⟩

/-- A group with no active member is translated to 255 throughout (R54, R61). -/
theorem translate_effectiveMap_empty {r : Group} {S : UplinkSet} (h : ¬ someActive S r.floor r.members) :
    translate r.members (r.effectiveMap S) = List.replicate 64 255#8 := by
  have hempty : r.effectiveMap S = noneMap := by
    rw [effectiveMap_eq]
    exact if_neg (mt activeSet_any.mp h)
  rw [hempty, Machine.translate, noneMap, List.map_replicate]
  rfl

theorem accessAnswer_inactive {x : BitVec 16} {r : Group} {S : UplinkSet} (h : r.state ≠ .active) :
    accessAnswer x r S = { index := x, status := .noRoute, body := none } := if_neg h

theorem accessAnswer_ok {x : BitVec 16} {r : Group} {S : UplinkSet} (h : r.state = .active) (hlive : someActive S r.floor r.members) :
    accessAnswer x r S = { index := x, status := .ok, body := some (r.gen, translate r.members
      (place (if r.mode = .hold then .keep else .full) r.members r.floor r.map S)) } := by
  rw [accessAnswer, if_pos h, ← effectiveMap_eq, activeSet_any.mpr hlive]
  rfl

theorem accessAnswer_noLive {x : BitVec 16} {r : Group} {S : UplinkSet} (h : r.state = .active)
    (hnone : ¬ someActive S r.floor r.members) :
    accessAnswer x r S = { index := x, status := .noLive, body := some (r.gen, List.replicate 64 255#8) } := by
  rw [accessAnswer, if_pos h, translate_effectiveMap_empty hnone, Bool.eq_false_iff.mpr (mt activeSet_any.mp hnone)]
  rfl

theorem granted_port (q : Requester) (s : State) (i : PortId) : (granted q s).port i = s.port i := by cases i <;> rfl

/-- A granted access serves the oldest unserved Resolve of its port. -/
theorem exec_resolveAccess_granted {i : PortId} {s : State} {e : ResolveEntry} (hrun : Runs s)
    (hgrant : s.grantee = some (requesterOf i)) (hfind : (s.port i).answers.find? ResolveEntry.unserved = some e) :
    exec (.resolveAccess i) s = .next ((granted (requesterOf i) s).setPort i
      (servedPort e (s.group e.index.toNat) s.settled (s.port i))) := by
  have hport := granted_port (requesterOf i) s i
  simp only [exec, execResolveAccess, unlessReset_runs hrun, access_granted hgrant]
  rw [serveResolve_eq (by rw [hport]; exact hfind), hport]
  rfl

/-- Settles O42: the Answer formed from the record, the copy recorded, and the Answers that may join. -/
theorem resolveAccessesFormAnswers : Obligations.ResolveAccessesFormAnswers := by
  refine ⟨translatesByMember, ?_, fun p first ready rest hsplit hfirst hready hrest => joinReady_eq hsplit hfirst hready hrest⟩
  rintro i s hrun hgrant p before e after rfl hsplit hneeds hnone hbefore r rfl answered hanswered
  have hserved : ∀ d ∈ before, d.unserved = false := fun d hd => by
    simpa [ResolveEntry.unserved, Option.isSome_iff_ne_none] using hbefore d hd
  have hunserved : e.unserved = true := by simp [ResolveEntry.unserved, hneeds, hnone]
  have hfind : (s.port i).answers.find? ResolveEntry.unserved = some e :=
    List.find?_eq_some_iff_append.mpr ⟨hunserved, before, after, hsplit, by simpa using hserved⟩
  have hgiven (a : Answer) : answerOldest (fun _ => a) (s.port i).answers = answered a := by
    rw [hsplit, answerOldest_append hserved, answerOldest_cons _ hunserved, hanswered]
  rw [exec_resolveAccess_granted hrun hgrant hfind, servedPort]
  simp only [hgiven]
  refine ⟨fun hinactive => ?_, fun hactive q hq => ⟨fun hlive => ?_, fun hdead => ?_⟩⟩
  · rw [if_neg hinactive, accessAnswer_inactive hinactive]
  · rw [if_pos hactive, accessAnswer_ok hactive hlive, hq]
    rfl
  · rw [if_pos hactive, accessAnswer_noLive hactive hdead, hq]
    rfl

/-! ### Messages that leave (R95, R97, R168, R169) -/

theorem countAnswer_eq (st : AnswerStatus) (c : PortCounters) : c.countAnswer st =
    { c with answersOk := if st = .ok then satInc c.answersOk else c.answersOk
             answersNoRoute := if st = .noRoute then satInc c.answersNoRoute else c.answersNoRoute
             answersBusy := if st = .busy then satInc c.answersBusy else c.answersBusy } := by
  cases st <;> rfl

/-- The characters of an Answer: its long form when it carries a generation and a map, else its short form. -/
theorem messageChars_answer (a : Answer) : messageChars (.answer a) =
    .opening :: (0x81#8 :: bytes16 a.index ++ answerStatusCode a.status :: (a.body.elim [] fun b => bytes32 b.1 ++ b.2)).map .data ++
      [.closing] := by
  cases h : a.body <;> simp [messageChars, messageBytes, h]

theorem exec_messageLeaves {i : PortId} {s : State} {m : LaneMessage} {rest : List LaneMessage} (hrun : Runs s)
    (hm : ∀ a, m ≠ .answer a) (ht : (s.port i).transmit = m :: rest) :
    exec (.messageLeaves i) s = .next (s.setPort i { s.port i with transmit := rest, sent := messageChars m }) := by
  simp only [exec, execMessageLeaves, unlessReset_runs hrun, ht]

/-- The Answer at the head of the transmit order belongs to the entry at the head of the answer order list (R93). -/
theorem PortOk.head_answer {p : Port} {a : Answer} {rest : List LaneMessage} (h : PortOk p) (ht : p.transmit = .answer a :: rest) :
    ∃ e es, p.answers = e :: es ∧ e.joined = true ∧ e.answer = some a := by
  obtain ⟨⟨first, waiting, hqueued, -⟩, -⟩ := (transmitOk_iff p).mp h.transmit
  obtain ⟨e, behind, rfl, ha, -⟩ := hqueued.head ht
  exact ⟨e, behind ++ waiting, hqueued.split, (hqueued.joined e List.mem_cons_self).1, ha⟩

/-- Settles O45: each message leaves in its own characters, an Answer with its entry. -/
theorem messagesLeaveInOrder : Obligations.MessagesLeaveInOrder := by
  rintro i s hrun p rfl
  refine ⟨fun a rest e es ht hanswers code hcode => ?_, fun g n rest ht => exec_messageLeaves hrun (by simp) ht,
    fun v rest ht => exec_messageLeaves hrun (by simp) ht, List.isEmpty_iff, fun hinv a rest ht => ?_⟩
  · have hstatus : code = answerStatusCode a.status := by rw [hcode]; cases a.status <;> rfl
    simp only [exec, execAnswerLeaves, unlessReset_runs hrun, ht, Port.answerLeft, hanswers, List.tail_cons, List.head?_cons,
      Option.map_some, Option.getD_some, countAnswer_eq, messageChars_answer, hstatus]
    cases a.body <;> rfl
  · obtain ⟨-, hport⟩ := (portsInv_iff s).mp hinv
    exact (hport i).head_answer ht

end Sys2Proof.Proofs
end

section
/-! PROOFS. What the commands of one port leave: the other port, Uplink Watch, the chains and the ACTIVE groups (R89, R107, R113; O46). -/
namespace Sys2Proof.Proofs
open Sys2Proof.Machine Sys2Proof.Safety Sys2Proof.Claims

/-! ### What the commands of one port leave (O46) -/

/-- What stays between two states whatever the lane of port `i` brings: the other port, Uplink Watch, the chains, the pool, the ack timeout
and every ACTIVE group. -/
structure Confined (i : PortId) (s t : State) : Prop where
  port : t.port (other i) = s.port (other i)
  uplinks : t.uplinks = s.uplinks
  live : t.live = s.live
  scan : t.scan = s.scan
  chains : t.table.chains = s.table.chains
  freeLinks : t.table.freeLinks = s.table.freeLinks
  ackTimeout : t.ackTimeout = s.ackTimeout
  group : ∀ g, (s.group g).state = .active → t.group g = s.group g

theorem ne_other (i : PortId) : i ≠ other i := by cases i <;> decide

theorem Confined.refl (i : PortId) (s : State) : Confined i s s := ⟨rfl, rfl, rfl, rfl, rfl, rfl, rfl, fun _ _ => rfl⟩

theorem Confined.trans {i : PortId} {s m t : State} (h : Confined i s m) (h' : Confined i m t) : Confined i s t :=
  ⟨h'.port.trans h.port, h'.uplinks.trans h.uplinks, h'.live.trans h.live, h'.scan.trans h.scan, h'.chains.trans h.chains,
    h'.freeLinks.trans h.freeLinks, h'.ackTimeout.trans h.ackTimeout, fun g hg => by
      have hm := h.group g hg
      exact (h'.group g (by rw [hm]; exact hg)).trans hm⟩

section Steps
variable {i : PortId} {s t : State} (h : Confined i s t)
include h

theorem Confined.setPort (p : Port) : Confined i s (t.setPort i p) := by
  refine h.trans ⟨State.port_setPort_ne t p (ne_other i), ?_, ?_, ?_, ?_, ?_, ?_, fun g _ => ?_⟩ <;> simp

theorem Confined.raise (f : Byte) : Confined i s (t.raise f) := by
  refine h.trans ⟨?_, rfl, rfl, rfl, rfl, rfl, rfl, fun g _ => rfl⟩
  simp

theorem Confined.raiseIf (c : Bool) (f : Byte) : Confined i s (t.raiseIf c f) := by
  cases c
  · exact h
  · exact h.raise f

theorem Confined.barrierCheck : Confined i s (barrierCheck t) := by
  refine h.trans ⟨?_, ?_, ?_, ?_, ?_, ?_, ?_, fun g _ => ?_⟩ <;> simp [State.group]

theorem Confined.resettle : Confined i s (resettle t) := by
  refine h.trans ⟨?_, ?_, ?_, ?_, ?_, ?_, ?_, fun g _ => ?_⟩ <;> simp [State.group]

theorem Confined.granted (q : Requester) : Confined i s (granted q t) := by
  refine h.trans ⟨granted_port q t _, rfl, rfl, rfl, rfl, rfl, rfl, fun g _ => rfl⟩

/-- A completed retirement writes a RETIRING group alone. -/
theorem Confined.completeGroup (g : Nat) : Confined i s (completeGroup g t) := by
  rcases completeGroup_cases g t with ⟨hretiring, -, heq⟩ | ⟨-, heq⟩ <;> rw [heq]
  · have hwrite : Confined i t (t.setGroup g (t.group g).completed) :=
      ⟨by cases i <;> rfl, rfl, rfl, rfl, rfl, rfl, rfl, fun k hk =>
        State.group_setGroup_other t _ fun hkg => by simp [hkg, hretiring] at hk⟩
    exact (h.trans hwrite).raise _
  · exact h

end Steps

/-- An entry that a change of every entry leaves as it is reads as before, in canonical form or not. -/
theorem sparseGet_sparseMap_kept {α : Type} [DecidableEq α] {dflt : α} {f : Nat → α → α} {l : SparseTable α} {k : Nat}
    (hne : sparseGet dflt l k ≠ dflt) (hf : f k (sparseGet dflt l k) = sparseGet dflt l k) :
    sparseGet dflt (sparseMap dflt f l) k = sparseGet dflt l k := by
  induction l with
  | nil => rfl
  | cons e t ih =>
    obtain ⟨j, v⟩ := e
    by_cases hj : j = k
    · subst hj
      simp only [sparseGet, if_true] at hne hf ⊢
      simp [sparseMap, hf, hne, sparseGet]
    · simp only [sparseGet, if_neg hj] at hne hf ⊢
      have htail := ih hne hf
      unfold sparseMap at htail ⊢
      rw [List.filterMap_cons]
      by_cases hd : f j v = dflt
      · simpa [hd] using htail
      · simpa [hd, sparseGet, hj] using htail

theorem completeAll_group_active {s : State} {g : Nat} (h : (s.group g).state = .active) : (completeAll s).group g = s.group g := by
  simp only [completeAll, State.group, State.raiseIf_table]
  refine sparseGet_sparseMap_kept (fun hreset => ?_) ?_
  · rw [State.group, hreset] at h
    cases h
  · have hstate : (sparseGet Group.reset s.table.groups g).state = .active := h
    simp [hstate]

theorem Confined.completeAll {i : PortId} {s t : State} (h : Confined i s t) : Confined i s (completeAll t) := by
  refine h.trans ⟨?_, ?_, ?_, ?_, ?_, ?_, ?_, fun g hg => completeAll_group_active hg⟩ <;> simp

theorem confined_portReset (i : PortId) (new : PortState) (s : State) : Confined i s (portReset i new s) := by
  have hbefore : Confined i s (resetCompleted i new s) := .raiseIf (.raise (.completeAll (.setPort (.refl i s) _)) _) _ _
  rw [portReset_eq]
  split
  · exact hbefore.resettle.barrierCheck
  · exact hbefore.barrierCheck

theorem confined_protocolError (i : PortId) (s : State) : Confined i s (protocolError i s) := by
  unfold protocolError
  split
  · exact confined_portReset i .fault s
  · exact .refl i s

theorem confined_unlessReset {i : PortId} {s t : State} {f : State → State} (h : unlessReset s f = .next t)
    (hf : Confined i s (f s)) : Confined i s t := by
  rcases unlessReset_next h with ⟨-, rfl⟩ | ⟨-, rfl⟩
  · exact .refl i t
  · exact hf

theorem confined_laneLockGained {i : PortId} {s t : State} (h : execLaneLockGained i s = .next t) : Confined i s t := by
  have hlock : Confined i s (s.setPort i { s.port i with locked := true }) := .setPort (.refl i s) _
  cases h
  split
  · exact hlock
  · split
    · exact .raise (.setPort hlock _) _
    · exact hlock

theorem confined_laneLockLost {i : PortId} {s t : State} (h : execLaneLockLost i s = .next t) : Confined i s t := by
  have hlock : Confined i s (s.setPort i { s.port i with locked := false }) := .setPort (.refl i s) _
  cases h
  split
  · exact hlock
  · split
    · exact hlock
    · exact hlock.trans (confined_portReset i .down _)

theorem confined_resolve {i : PortId} {x : BitVec 16} {s t : State} (h : execResolve i x s = .next t) : Confined i s t := by
  refine confined_unlessReset h ?_
  dsimp only
  split
  · exact .refl i s
  · split
    · exact confined_protocolError i s
    · exact .setPort (.refl i s) _

theorem confined_resolveAccess {i : PortId} {s t : State} (h : execResolveAccess i s = .next t) : Confined i s t := by
  refine confined_unlessReset h ?_
  rcases access_cases (requesterOf i) (serveResolve i) s with ⟨-, heq⟩ | ⟨-, heq⟩ <;> rw [heq]
  · have hgranted : Confined i s (granted (requesterOf i) s) := .granted (.refl i s) _
    unfold serveResolve
    dsimp only
    split
    · exact hgranted
    · exact .setPort hgranted _
  · exact .refl i s

theorem confined_ackTaken (i : PortId) (v : DownVector) (s : State) : Confined i s (ackTaken i v s) := by
  have hport (p : Port) (c : Bool) : Confined i s ((s.setPort i p).raiseIf c flagPort) := .raiseIf (.setPort (.refl i s) p) c _
  unfold ackTaken
  dsimp only
  split
  · exact (hport _ _).resettle
  · exact hport _ _

theorem confined_vectorAck {i : PortId} {n : Byte} {s t : State} (h : execVectorAck i n s = .next t) : Confined i s t := by
  refine confined_unlessReset h ?_
  dsimp only
  split
  · exact .refl i s
  · split
    · exact confined_protocolError i s
    · split
      · exact confined_protocolError i s
      · exact confined_ackTaken i _ s

theorem confined_retractDone {i : PortId} {g : BitVec 16} {s t : State} (h : execRetractDone i g s = .next t) : Confined i s t := by
  refine confined_unlessReset h ?_
  dsimp only
  split
  · split
    · exact confined_protocolError i s
    · split
      · exact .barrierCheck (.completeGroup (.setPort (.refl i s) _) _)
      · exact confined_protocolError i s
  · exact confined_protocolError i s
  · exact .refl i s
  · exact .refl i s

/-- A message that is an error under some condition. -/
theorem confined_laneError {p : Prop} [Decidable p] {i : PortId} {s t : State}
    (h : unlessReset s (fun s => if p then protocolError i s else s) = .next t) : Confined i s t := by
  refine confined_unlessReset h ?_
  split
  · exact confined_protocolError i s
  · exact .refl i s

theorem confined_ackTimerExpiry {i : PortId} {s t : State} (h : execAckTimerExpiry i s = .next t) : Confined i s t := by
  refine confined_unlessReset h ?_
  split
  · exact .refl i s
  · exact confined_protocolError i s

theorem confined_answerLeaves {i : PortId} {s t : State} (h : execAnswerLeaves i s = .next t) : Confined i s t := by
  refine confined_unlessReset h ?_
  split
  · exact .setPort (.refl i s) _
  · exact .refl i s

theorem confined_messageLeaves {i : PortId} {s t : State} (h : execMessageLeaves i s = .next t) : Confined i s t := by
  refine confined_unlessReset h ?_
  split
  · exact .refl i s
  · exact .refl i s
  · exact .setPort (.refl i s) _

/-- Every command of a port's lane is confined to it. -/
theorem exec_confined {c : Instr} {i : PortId} {s t : State} (hc : portOf c = some i) (h : exec c s = .next t) : Confined i s t := by
  cases c <;> cases hc
  case laneLockGained => exact confined_laneLockGained h
  case laneLockLost => exact confined_laneLockLost h
  case resolve => exact confined_resolve h
  case resolveAccess => exact confined_resolveAccess h
  case vectorAck => exact confined_vectorAck h
  case retractDone => exact confined_retractDone h
  case unknownKind => exact confined_laneError h
  case ackTimerExpiry => exact confined_ackTimerExpiry h
  case answerLeaves => exact confined_answerLeaves h
  case messageLeaves => exact confined_messageLeaves h
  case wrongLengthMessage => exact confined_laneError h

/-- Settles O46: each change a port's commands are made of is confined to that port. -/
theorem portCommandsLeaveTheOtherPort : Obligations.PortCommandsLeaveTheOtherPort := by
  intro c i s t hc h
  obtain ⟨hport, huplinks, hlive, hscan, hchains, hfree, htimeout, hgroup⟩ := exec_confined hc h
  exact ⟨hport, huplinks, hlive, hscan, hchains, hfree, htimeout, hgroup⟩

end Sys2Proof.Proofs
end

section
/-! PROOFS. What a port reset does: the port emptied, the retirements completed, the flags, the settled set (R90, R91, R101, R127, R128; O39). -/
namespace Sys2Proof.Proofs
open Sys2Proof.Machine Sys2Proof.Safety Sys2Proof.Claims

/-! ### The groups and the flags -/

/-- Some RETIRING group is named by no entry of the other port's list, so the reset of port `i` completes it. -/
def resetCompletes (i : PortId) (s : State) : Bool :=
  s.table.groups.any fun e => e.2.state == .retiring && !((s.port (other i)).retracts.any (·.group == e.1))

/-- A port that has been reset names no group. -/
theorem named_resetPort (i : PortId) (new : PortState) (s : State) (g : Nat) :
    (s.setPort i (resetPort new (s.port i))).named g = (s.port (other i)).retracts.any (·.group == g) := by
  cases i <;> simp [State.named, resetPort, Port.reset, other]

theorem resetCompletes_iff {i : PortId} {s : State} (hwf : SparseWf Group.reset s.table.groups) :
    resetCompletes i s = true ↔ ∃ g, (s.group g).state = .retiring ∧ ¬ names (s.port (other i)) g := by
  simp only [resetCompletes, List.any_eq_true, Bool.and_eq_true, beq_iff_eq, Bool.not_eq_true', names, ← Bool.not_eq_true]
  constructor
  · rintro ⟨e, he, hretiring, hnone⟩
    exact ⟨e.1, by rw [s.group_of_mem hwf he]; exact hretiring, hnone⟩
  · rintro ⟨g, hretiring, hnone⟩
    refine ⟨_, s.mem_of_group g fun hreset => ?_, hretiring, hnone⟩
    rw [hreset] at hretiring
    cases hretiring

theorem resetCompleted_groups (i : PortId) (new : PortState) (s : State) : (resetCompleted i new s).table.groups =
    (completeAll (s.setPort i (resetPort new (s.port i)))).table.groups := by simp [resetCompleted]

/-- Each RETIRING group that the other port's list does not name is FREE at the next generation (R127, R128). -/
theorem resetCompleted_group {i : PortId} {new : PortState} {s : State} (hwf : SparseWf Group.reset s.table.groups) (g : Nat) :
    (resetCompleted i new s).group g =
      if (s.group g).state = .retiring ∧ (((s.port (other i)).retracts.any fun e => e.group = g) = false) then
        freedAt (nextGen (s.group g).gen)
      else s.group g := by
  have hgroup : (resetCompleted i new s).group g = (completeAll (s.setPort i (resetPort new (s.port i)))).group g := by
    simp only [State.group, resetCompleted_groups]
  have hfreed : (s.group g).completed = freedAt (nextGen (s.group g).gen) := rfl
  rw [hgroup, completeAll_group (by simpa using hwf), named_resetPort, State.setPort_group, hfreed]
  simp only [Bool.and_eq_true, Bool.not_eq_true', Bool.beq_eq_decide_eq, decide_eq_true_eq]

/-- Completed retirements write records and may set RETIRED. -/
theorem completeAll_eq (s : State) : completeAll s =
    { s with
      table := { s.table with groups := (completeAll s).table.groups }
      mgmt := { s.mgmt with flags := s.mgmt.flags |||
        (if s.table.groups.any fun e => e.2.state == .retiring && !s.named e.1 then 0x80#8 else 0x00#8) } } := by
  simp only [completeAll]
  cases s.table.groups.any fun e => e.2.state == .retiring && !s.named e.1
  · simp only [State.raiseIf_false, Bool.false_eq_true, if_false, BitVec.or_zero]
  · rfl

/-- The state of a port reset before the settled set is recomputed. -/
theorem resetCompleted_eq (i : PortId) (new : PortState) (s : State) : resetCompleted i new s =
    { s.setPort i (resetPort new (s.port i)) with
      table := { s.table with groups := (resetCompleted i new s).table.groups }
      mgmt := { s.mgmt with flags := s.mgmt.flags ||| (if resetCompletes i s then 0x80#8 else 0x00#8) ||| 0x08#8 |||
                                     (if new = .fault then 0x10#8 else 0x00#8) } } := by
  rw [resetCompleted_groups, resetCompleted, completeAll_eq]
  simp only [named_resetPort, State.setPort_table, State.setPort_mgmt]
  by_cases hf : new = .fault
  · rw [hf]; rfl
  · rw [beq_eq_false_iff_ne.mpr hf, State.raiseIf_false, if_neg hf, BitVec.or_zero]; rfl

/-! ### What the rest of a port reset leaves of the Management Interface -/

/-- The interface's state and the Barrier's timer may have changed, and WALK_IDLE may have been set. -/
structure MgmtKept (s t : State) : Prop where
  flags : t.mgmt.flags ||| 0x20#8 = s.mgmt.flags ||| 0x20#8
  enables : t.mgmt.enables = s.mgmt.enables
  resetOwed : t.mgmt.resetOwed = s.mgmt.resetOwed
  dropped : t.mgmt.dropped = s.mgmt.dropped
  walkVisits : t.mgmt.walkVisits = s.mgmt.walkVisits
  droppedRequests : t.mgmt.droppedRequests = s.mgmt.droppedRequests
  sdo : t.mgmt.sdo = s.mgmt.sdo

theorem MgmtKept.of_mgmt {s t : State} (h : t.mgmt = s.mgmt) : MgmtKept s t := by
  constructor <;> rw [h]

theorem MgmtKept.trans {s m t : State} (h : MgmtKept s m) (h' : MgmtKept m t) : MgmtKept s t :=
  ⟨h'.flags.trans h.flags, h'.enables.trans h.enables, h'.resetOwed.trans h.resetOwed, h'.dropped.trans h.dropped,
    h'.walkVisits.trans h.walkVisits, h'.droppedRequests.trans h.droppedRequests, h'.sdo.trans h.sdo⟩

/-- A Barrier that ends changes the interface's state and the Barrier's timer alone. -/
theorem barrierCheck_mgmt (s : State) :
    ∃ iface timer, (barrierCheck s).mgmt = { s.mgmt with iface := iface, barrierTimer := timer } := by
  rcases barrierCheck_cases s with ⟨b, -, -, h⟩ | ⟨-, h⟩ <;> rw [h]
  · exact ⟨_, _, rfl⟩
  · exact ⟨s.mgmt.iface, s.mgmt.barrierTimer, rfl⟩

@[simp] theorem barrierCheck_flags (s : State) : (barrierCheck s).mgmt.flags = s.mgmt.flags := by
  obtain ⟨iface, timer, h⟩ := barrierCheck_mgmt s
  rw [h]

theorem mgmtKept_barrierCheck (s : State) : MgmtKept s (barrierCheck s) := by
  obtain ⟨iface, timer, h⟩ := barrierCheck_mgmt s
  constructor <;> rw [h]

theorem mgmtKept_walkIdle (s : State) (c : Bool) : MgmtKept s (s.raiseIf c flagWalkIdle) := by
  cases c
  · exact .of_mgmt rfl
  · refine ⟨?_, rfl, rfl, rfl, rfl, rfl, rfl⟩
    have hidle : flagWalkIdle = 0x20#8 := rfl
    rw [State.raiseIf_true, State.raise_flags, hidle, BitVec.or_assoc, BitVec.or_self]

theorem mgmtKept_takeNextJob (s : State) : MgmtKept s (takeNextJob s) := by
  have hwalk (w : Walk) : MgmtKept s { s with walk := w } := .of_mgmt rfl
  exact ((hwalk _).trans (mgmtKept_walkIdle _ _)).trans (mgmtKept_barrierCheck _)

theorem mgmtKept_startIfIdle (s : State) : MgmtKept s (startIfIdle s) := by
  rcases startIfIdle_cases s with ⟨-, -, h⟩ | ⟨-, h⟩ <;> rw [h]
  · exact mgmtKept_takeNextJob s
  · exact .of_mgmt rfl

theorem mgmtKept_resettle (s : State) : MgmtKept s (resettle s) := by
  rw [resettle]
  refine .trans ?_ (mgmtKept_startIfIdle _)
  exact .of_mgmt rfl

theorem mgmtKept_portReset (i : PortId) (new : PortState) (s : State) : MgmtKept (resetCompleted i new s) (portReset i new s) := by
  rw [portReset_eq]
  split
  · exact (mgmtKept_resettle _).trans (mgmtKept_barrierCheck _)
  · exact mgmtKept_barrierCheck _

/-! ### The state a port reset leaves (O39) -/

theorem resetCompleted_wf {i : PortId} {new : PortState} {s : State} (hwf : SparseWf Group.reset s.table.groups) :
    SparseWf Group.reset (resetCompleted i new s).table.groups := by
  rw [resetCompleted_groups]
  exact completeAll_wf (by simpa using hwf)

/-- The rest of a port reset leaves the Path Table. -/
theorem portReset_table (i : PortId) (new : PortState) (s : State) : (portReset i new s).table = (resetCompleted i new s).table := by
  rw [portReset_eq]
  split <;> simp

theorem portReset_group {i : PortId} {new : PortState} {s : State} (hwf : SparseWf Group.reset s.table.groups) (g : Nat) :
    (portReset i new s).group g =
      if (s.group g).state = .retiring ∧ (((s.port (other i)).retracts.any fun e => e.group = g) = false) then
        freedAt (nextGen (s.group g).gen)
      else s.group g := by
  rw [State.group, portReset_table]
  exact resetCompleted_group hwf g

theorem resetCompleted_flags (i : PortId) (new : PortState) (s : State) : (resetCompleted i new s).mgmt.flags =
    s.mgmt.flags ||| 0x08#8 ||| (if new = .fault then 0x10#8 else 0x00#8) ||| (if resetCompletes i s then 0x80#8 else 0x00#8) := by
  rw [resetCompleted_eq]
  dsimp only
  ac_rfl

/-- A port that was not UP has no part in the settled set, which stays with the flags and the Walk Engine. -/
theorem portReset_not_up {i : PortId} {new : PortState} {s : State} (h : (s.port i).state ≠ .up) :
    portReset i new s = barrierCheck (resetCompleted i new s) := by
  rw [portReset_eq, if_neg h]

/-- A port that was UP leaves the settled set (R101). -/
theorem portReset_settled {i : PortId} {new : PortState} {s : State} (h : (s.port i).state = .up) :
    (portReset i new s).settled = settledOf s.live (portReset i new s).lp0 (portReset i new s).lp1 := by
  simp [portReset_eq, h, resetCompleted]

/-- The lock is lost: a port reset, but in DOWN and while PORST_N is low (R90). -/
theorem exec_laneLockLost (i : PortId) (s : State) {s1 : State} (h : s1 = s.setPort i { s.port i with locked := false }) :
    (s.porst = false → (s.port i).state ≠ .down → exec (.laneLockLost i) s = .next (portReset i .down s1)) ∧
    (s.porst = true ∨ (s.port i).state = .down → exec (.laneLockLost i) s = .next s1) := by
  subst h
  simp only [exec, execLaneLockLost]
  refine ⟨fun hrun hup => by rw [hrun, if_neg Bool.false_ne_true, if_neg hup], fun hkept => ?_⟩
  rcases hkept with hlow | hdown
  · rw [if_pos hlow]
  · rw [if_pos hdown, ite_self]

/-- Settles O39: what a port reset does before the settled set is looked at (`resetCompleted_eq`, `resetCompleted_group`), and what the rest of
it leaves (`mgmtKept_portReset`, `confined_portReset`). -/
theorem portResetEmptiesThePort : Obligations.PortResetEmptiesThePort := by
  refine fun i s => ⟨fun s1 => exec_laneLockLost i s, ?_⟩
  rintro hwf new t - rfl
  have hconf := confined_portReset i new s
  have hmgmt := mgmtKept_portReset i new s
  have hcompletes := resetCompletes_iff (i := i) hwf
  have hbefore := resetCompleted_eq i new s
  refine ⟨⟨resetCompletes i s, resetCompleted i new s, hcompletes, resetCompleted_wf hwf, resetCompleted_group hwf, hbefore,
    portReset_eq i new s⟩, portReset_port_eq i new s, hconf.port, portReset_group hwf,
    ⟨resetCompletes i s, hcompletes, ?_, fun hup => ?_⟩, fun hup => ?_, portReset_settled, hconf.uplinks, hconf.scan, hconf.live,
    hconf.chains, hconf.freeLinks, ?_, ?_, hconf.ackTimeout, portReset_porst i new s, ?_, ?_, ?_, ?_, ?_, ?_, ?_, ?_⟩
  · rw [hmgmt.flags, resetCompleted_flags]; ac_rfl
  · rw [portReset_not_up hup, barrierCheck_flags, resetCompleted_flags]
  · simp [portReset_not_up hup, resetCompleted]
  · rw [portReset_table, hbefore]
  · rw [portReset_table, hbefore]
  · rw [portReset_eq]; split <;> simp [resetCompleted]
  · rw [hmgmt.enables, hbefore]
  · rw [hmgmt.resetOwed, hbefore]
  · rw [hmgmt.dropped, hbefore]
  · rw [hmgmt.walkVisits, hbefore]
  · rw [hmgmt.droppedRequests, hbefore]
  · rw [hmgmt.sdo, hbefore]
  · rw [portReset_eq]; split <;> simp [resetCompleted]

end Sys2Proof.Proofs
end

section
/-! PROOFS. The retract list of a port: its cut behind the SENT entries, and what a reported change and a matching Retract Done make of it
(R117 to R127; O29, O44). -/
namespace Sys2Proof.Proofs
open Sys2Proof.Machine Sys2Proof.Safety Sys2Proof.Claims

/-! ### The cut behind the SENT entries -/

/-- A retract list whose SENT entries stand at its head, cut behind them (R117). -/
structure MarkedCut (l sent waiting : List RetractEntry) : Prop where
  split : l = sent ++ waiting
  sent : ∀ e ∈ sent, e.mark = .sent
  waiting : ∀ e ∈ waiting, e.mark = .waiting

theorem mark_cases (m : Mark) : m = .sent ∨ m = .waiting := by cases m <;> simp

theorem markedCut_of_sent {l : List RetractEntry} (h : ∀ e ∈ l, e.mark = .sent) : MarkedCut l l [] :=
  ⟨(List.append_nil l).symm, h, fun _ he => absurd he List.not_mem_nil⟩

/-- In a list with the SENT entries at its head, nothing behind a WAITING entry is SENT. -/
theorem markedCut_of_waiting {sent later : List RetractEntry} {w : RetractEntry} (hw : w.mark = .waiting)
    (hsent : ∀ e ∈ sent, e.mark = .sent) (h : (sent ++ w :: later).Pairwise fun a b => b.mark = .sent → a.mark = .sent) :
    MarkedCut (sent ++ w :: later) sent (w :: later) := by
  obtain ⟨-, htail, -⟩ := List.pairwise_append.mp h
  refine ⟨rfl, hsent, List.forall_mem_cons.mpr ⟨hw, fun e he => (mark_cases e.mark).resolve_left fun hs => ?_⟩⟩
  have hfirst := (List.pairwise_cons.mp htail).1 e he hs
  simp [hw] at hfirst

theorem exists_markedCut {l : List RetractEntry} (h : l.Pairwise fun a b => b.mark = .sent → a.mark = .sent) :
    ∃ sent waiting, MarkedCut l sent waiting := by
  induction l with
  | nil => exact ⟨[], [], markedCut_of_sent (by simp)⟩
  | cons e t ih =>
    rcases mark_cases e.mark with hsent | hwaiting
    · obtain ⟨sent, waiting, rfl, hfirst, hrest⟩ := ih (List.pairwise_cons.mp h).2
      exact ⟨e :: sent, waiting, rfl, List.forall_mem_cons.mpr ⟨hsent, hfirst⟩, hrest⟩
    · exact ⟨[], e :: t, markedCut_of_waiting (sent := []) hwaiting (by simp) h⟩

section Cut
variable {l sent waiting : List RetractEntry} (h : MarkedCut l sent waiting)
include h

theorem MarkedCut.pairwise : l.Pairwise fun a b => b.mark = .sent → a.mark = .sent := by
  obtain ⟨rfl, hsent, hwaiting⟩ := h
  exact List.pairwise_append.mpr ⟨List.pairwise_of_forall_mem_list fun a ha _ _ _ => hsent a ha,
    List.pairwise_of_forall_mem_list fun _ _ b hb hb' => by simp [hwaiting b hb] at hb', fun a ha _ _ _ => hsent a ha⟩

theorem MarkedCut.sentCount : sentCount l = sent.length := by
  obtain ⟨rfl, hsent, hwaiting⟩ := h
  have hnone : waiting.countP (·.mark == .sent) = 0 := List.countP_eq_zero.mpr fun e he => by simp [hwaiting e he]
  rw [Machine.sentCount, List.countP_append, hnone, List.countP_eq_length.mpr fun e he => by simp [hsent e he], Nat.add_zero]

theorem MarkedCut.filter_waiting : l.filter (·.mark == .waiting) = waiting := by
  obtain ⟨rfl, hsent, hwaiting⟩ := h
  rw [List.filter_append, List.filter_eq_nil_iff.mpr fun e he => by simp [hsent e he],
    List.filter_eq_self.mpr fun e he => by simp [hwaiting e he], List.nil_append]

theorem MarkedCut.find_waiting : l.find? (·.mark == .waiting) = waiting.head? := by
  rw [← List.head?_filter, h.filter_waiting]

theorem MarkedCut.any_waiting : l.any (·.mark == .waiting) = true ↔ waiting ≠ [] := by
  rw [← h.filter_waiting, ne_eq, List.filter_eq_nil_iff]
  simp

/-- Entries that keep their marks keep the cut. -/
theorem MarkedCut.map {f : RetractEntry → RetractEntry} (hf : ∀ e, (f e).mark = e.mark) :
    MarkedCut (l.map f) (sent.map f) (waiting.map f) := by
  obtain ⟨rfl, hsent, hwaiting⟩ := h
  exact ⟨List.map_append, List.forall_mem_map.mpr fun e he => (hf e).trans (hsent e he),
    List.forall_mem_map.mpr fun e he => (hf e).trans (hwaiting e he)⟩

/-- A new WAITING entry stands at the end (R118). -/
theorem MarkedCut.append {e : RetractEntry} (he : e.mark = .waiting) : MarkedCut (l ++ [e]) sent (waiting ++ [e]) := by
  obtain ⟨rfl, hsent, hwaiting⟩ := h
  exact ⟨List.append_assoc .., hsent, List.forall_mem_append.mpr ⟨hwaiting, by simpa using he⟩⟩

end Cut

theorem markOldest_cut {sent later : List RetractEntry} {w : RetractEntry} (hsent : ∀ e ∈ sent, e.mark = .sent)
    (hw : w.mark = .waiting) : markOldest (sent ++ w :: later) = sent ++ { w with mark := .sent } :: later := by
  induction sent with
  | nil => simp [markOldest, hw]
  | cons e sent ih =>
    obtain ⟨he, htail⟩ := List.forall_mem_cons.mp hsent
    simp [markOldest, he, ih htail]

/-- The oldest WAITING entry marked SENT stands last among the SENT ones. -/
theorem MarkedCut.mark {l sent later : List RetractEntry} {w : RetractEntry} (h : MarkedCut l sent (w :: later)) :
    MarkedCut (markOldest l) (sent ++ [{ w with mark := .sent }]) later := by
  obtain ⟨rfl, hsent, hwaiting⟩ := h
  obtain ⟨hw, hlater⟩ := List.forall_mem_cons.mp hwaiting
  rw [markOldest_cut hsent hw]
  exact ⟨by simp, List.forall_mem_append.mpr ⟨hsent, by simp⟩, hlater⟩

/-- `RetractsOk` by the cut of the retract list. -/
theorem retractsOk_iff (p : Port) : RetractsOk p ↔ ∃ sent waiting, MarkedCut p.retracts sent waiting ∧
    sent.length ≤ Config.maxSent ∧ (waiting ≠ [] → sent.length = Config.maxSent) ∧ (waiting.map (·.group)).Nodup := by
  constructor
  · rintro ⟨hpairwise, hcount, hfull, hnodup⟩
    obtain ⟨sent, waiting, hcut⟩ := exists_markedCut hpairwise
    rw [hcut.any_waiting] at hfull
    rw [hcut.filter_waiting] at hnodup
    rw [hcut.sentCount] at hcount hfull
    exact ⟨sent, waiting, hcut, hcount, hfull, hnodup⟩
  · rintro ⟨sent, waiting, hcut, hcount, hfull, hnodup⟩
    rw [RetractsOk, hcut.any_waiting, hcut.filter_waiting, hcut.sentCount]
    exact ⟨hcut.pairwise, hcount, hfull, hnodup⟩

/-! ### Sending a retract (R121) -/

section Send
variable {p : Port} {sent waiting : List RetractEntry} (timeout : Byte)

theorem sendRetract_full (hcut : MarkedCut p.retracts sent waiting) (hfull : waiting ≠ [] → sent.length = Config.maxSent) :
    p.sendRetract timeout = p := by
  rcases p.sendRetract_cases timeout with ⟨w, hfind, hroom, -⟩ | ⟨-, hkept⟩
  · rw [hcut.find_waiting] at hfind
    rw [hcut.sentCount, hfull fun hnil => by simp [hnil] at hfind] at hroom
    exact absurd hroom (Nat.lt_irrefl _)
  · exact hkept

theorem sendRetract_sends {w : RetractEntry} {later : List RetractEntry} (hcut : MarkedCut p.retracts sent (w :: later))
    (hroom : sent.length < Config.maxSent) : p.sendRetract timeout =
      { p with retracts := sent ++ { w with mark := .sent } :: later
               transmit := p.transmit ++ [.retract w.group w.gen]
               counters := { p.counters with retractsSent := satInc p.counters.retractsSent }
               ackTimer := if p.ackTimer = .stopped then .running (timeout.toNat * 100) else p.ackTimer } := by
  obtain ⟨hw, -⟩ := List.forall_mem_cons.mp hcut.waiting
  have hmarked : markOldest p.retracts = sent ++ { w with mark := .sent } :: later := by
    rw [hcut.split, markOldest_cut hcut.sent hw]
  simp only [Port.sendRetract, hcut.find_waiting, List.head?_cons, hcut.sentCount, if_pos hroom, startAckTimer_eq_ite, hmarked]

end Send

/-- A list that lacks at most one credit is in order once a retract has been sent (R121). -/
theorem retractsOk_sendRetract {p : Port} {sent waiting : List RetractEntry} (timeout : Byte)
    (hcut : MarkedCut p.retracts sent waiting) (hcount : sent.length ≤ Config.maxSent)
    (hfull : waiting ≠ [] → sent.length = Config.maxSent ∨ sent.length + 1 = Config.maxSent ∨ waiting.length = 1)
    (hnodup : (waiting.map (·.group)).Nodup) : RetractsOk (p.sendRetract timeout) := by
  rw [retractsOk_iff]
  rcases p.sendRetract_cases timeout with ⟨e, hfind, hroom, heq⟩ | ⟨hstay, heq⟩ <;> rw [heq]
  · rw [hcut.find_waiting] at hfind
    rw [hcut.sentCount] at hroom
    obtain ⟨later, rfl⟩ := List.head?_eq_some_iff.mp hfind
    rw [startAckTimer_eq_ite]
    refine ⟨_, later, hcut.mark, by simpa using hroom, fun hlater => ?_, (List.nodup_cons.mp hnodup).2⟩
    have hlength : later.length ≠ 0 := by simpa using hlater
    have := hfull (List.cons_ne_nil _ _)
    simp only [List.length_cons, List.length_append, List.length_nil] at this ⊢
    omega
  · refine ⟨sent, waiting, hcut, hcount, fun hne => ?_, hnodup⟩
    rw [hcut.sentCount] at hstay
    rcases hstay with hall | hge
    · obtain ⟨w, hw⟩ := List.exists_mem_of_ne_nil _ hne
      have hsent := hall w (hcut.split ▸ List.mem_append_right _ hw)
      simp [hcut.waiting w hw] at hsent
    · omega

/-! ### A reported change (R118) -/

/-- The slots of a port after a change of group g: the one that held a copy of g is EMPTY. -/
def slotsAfter (g : Nat) (p : Port) : SparseTable (Option Copy) :=
  if p.holdsCopy g then sparseSet none p.slots (g % Config.slots) none else p.slots

theorem holdsCopy_iff (p : Port) (g : Nat) :
    p.holdsCopy g = true ↔ ∃ c, sparseGet none p.slots (g % Config.slots) = some c ∧ c.group = g := by
  unfold Port.holdsCopy
  cases sparseGet none p.slots (g % Config.slots) <;> simp

theorem sparseGet_slotsAfter (g : Nat) (p : Port) (k : Nat) : sparseGet none (slotsAfter g p) k =
    if p.holdsCopy g = true ∧ k = g % Config.slots then none else sparseGet none p.slots k := by
  unfold slotsAfter
  cases p.holdsCopy g
  · simp
  · simp [sparseGet_sparseSet]

theorem slotsAfter_wf (g : Nat) {p : Port} (h : SparseWf none p.slots) : SparseWf none (slotsAfter g p) := by
  unfold slotsAfter
  split
  · exact sparseWf_sparseSet _ _ _ _ h
  · exact h

/-- A WAITING entry for group g stands in the list. -/
theorem any_waitsFor {l : List RetractEntry} {g : Nat} :
    l.any (·.waitsFor g) = true ↔ ∃ e ∈ l, e.mark = .waiting ∧ e.group = g := by simp [RetractEntry.waitsFor]

theorem raiseFor_eq (g : Nat) (n : Generation) (e : RetractEntry) :
    e.raiseFor g n = if e.mark = .waiting ∧ e.group = g then { e with gen := n } else e := by
  simp [RetractEntry.raiseFor, RetractEntry.waitsFor]

theorem raiseFor_group (g : Nat) (n : Generation) (e : RetractEntry) : (e.raiseFor g n).group = e.group := by
  unfold RetractEntry.raiseFor; split <;> rfl

/-- The retract entry that a change of a copied group owes. -/
def owedEntry (g : Nat) (n : Generation) : RetractEntry := { group := g, gen := n, mark := .waiting }

section Change
variable {p : Port} {g : Nat} (n : Generation) (timeout : Byte)

theorem takeChange_unheld (hheld : p.holdsCopy g = false) (hwaits : p.retracts.any (·.waitsFor g) = false) :
    p.takeChange g n timeout = p := by simp [Port.takeChange, hheld, hwaits]

theorem takeChange_raises (hwaits : p.retracts.any (·.waitsFor g) = true) : p.takeChange g n timeout =
    Port.sendRetract timeout { p with slots := slotsAfter g p, retracts := p.retracts.map (RetractEntry.raiseFor g n) } := by
  cases hheld : p.holdsCopy g <;> simp [Port.takeChange, slotsAfter, Port.emptySlot, hheld, hwaits]

theorem takeChange_appends (hheld : p.holdsCopy g = true) (hwaits : p.retracts.any (·.waitsFor g) = false) :
    p.takeChange g n timeout =
      Port.sendRetract timeout { p with slots := slotsAfter g p, retracts := p.retracts ++ [owedEntry g n] } := by
  simp [Port.takeChange, slotsAfter, Port.emptySlot, owedEntry, hheld, hwaits]

/-- What a change makes of a port: nothing, a raised entry, or a new one; a retract is then sent if one may be. -/
theorem takeChange_cases (p : Port) (g : Nat) :
    (p.holdsCopy g = false ∧ p.retracts.any (·.waitsFor g) = false ∧ p.takeChange g n timeout = p) ∨
    (p.retracts.any (·.waitsFor g) = true ∧ p.takeChange g n timeout =
      Port.sendRetract timeout { p with slots := slotsAfter g p, retracts := p.retracts.map (RetractEntry.raiseFor g n) }) ∨
    (p.holdsCopy g = true ∧ p.retracts.any (·.waitsFor g) = false ∧ p.takeChange g n timeout =
      Port.sendRetract timeout { p with slots := slotsAfter g p, retracts := p.retracts ++ [owedEntry g n] }) := by
  cases hwaits : p.retracts.any (·.waitsFor g)
  · cases hheld : p.holdsCopy g
    · exact .inl ⟨rfl, rfl, takeChange_unheld n timeout hheld hwaits⟩
    · exact .inr (.inr ⟨rfl, rfl, takeChange_appends n timeout hheld hwaits⟩)
  · exact .inr (.inl ⟨rfl, takeChange_raises n timeout hwaits⟩)

theorem takeChange_slots (p : Port) (g : Nat) : (p.takeChange g n timeout).slots = slotsAfter g p := by
  rcases takeChange_cases n timeout p g with ⟨hheld, -, heq⟩ | ⟨-, heq⟩ | ⟨-, -, heq⟩
  · rw [heq, slotsAfter, hheld]; rfl
  all_goals
    rw [heq]
    obtain ⟨_, _, _, _, -, hsend⟩ := sendRetract_eq timeout
      { p with slots := slotsAfter g p, retracts := _ }
    rw [hsend]

end Change

end Sys2Proof.Proofs
end

section
/-! PROOFS. What a reported change does to the ports (O29), and what a matching Retract Done does (O44). -/
namespace Sys2Proof.Proofs
open Sys2Proof.Machine Sys2Proof.Safety Sys2Proof.Claims

/-! ### A reported change, port by port (O29) -/

section Change
variable {p : Port} {g : Nat} (n : Generation) (timeout : Byte) (h : RetractsOk p)
include h

/-- A raised entry keeps its place: it waits for a credit, and no credit is free (R121). -/
theorem takeChange_raised (hwaits : p.retracts.any (·.waitsFor g) = true) : p.takeChange g n timeout =
    { p with slots := slotsAfter g p, retracts := p.retracts.map (RetractEntry.raiseFor g n) } := by
  obtain ⟨sent, waiting, hcut, -, hfull, -⟩ := (retractsOk_iff p).mp h
  rw [takeChange_raises n timeout hwaits]
  exact sendRetract_full timeout (hcut.map (raiseFor_mark g n)) (by simpa using hfull)

/-- With 64 entries SENT the new entry waits. -/
theorem takeChange_waits (hheld : p.holdsCopy g = true) (hwaits : p.retracts.any (·.waitsFor g) = false)
    (hcount : sentCount p.retracts = Config.maxSent) :
    p.takeChange g n timeout = { p with slots := slotsAfter g p, retracts := p.retracts ++ [owedEntry g n] } := by
  obtain ⟨sent, waiting, hcut, -⟩ := (retractsOk_iff p).mp h
  rw [takeChange_appends n timeout hheld hwaits]
  exact sendRetract_full timeout (hcut.append rfl) fun _ => hcut.sentCount.symm.trans hcount

/-- With a free credit nothing waits, and the new entry is sent at once. -/
theorem takeChange_sends (hheld : p.holdsCopy g = true) (hwaits : p.retracts.any (·.waitsFor g) = false)
    (hroom : sentCount p.retracts < Config.maxSent) : p.takeChange g n timeout =
      { p with slots := slotsAfter g p, retracts := p.retracts ++ [{ owedEntry g n with mark := .sent }]
               transmit := p.transmit ++ [.retract g n]
               counters := { p.counters with retractsSent := satInc p.counters.retractsSent }
               ackTimer := if p.ackTimer = .stopped then .running (timeout.toNat * 100) else p.ackTimer } := by
  obtain ⟨sent, waiting, hcut, -, hfull, -⟩ := (retractsOk_iff p).mp h
  rw [hcut.sentCount] at hroom
  obtain rfl : waiting = [] := by
    by_contra hne
    exact absurd (hfull hne) (Nat.ne_of_lt hroom)
  obtain rfl : p.retracts = sent := hcut.split.trans (List.append_nil sent)
  rw [takeChange_appends n timeout hheld hwaits]
  exact sendRetract_sends (p := { p with slots := _, retracts := _ }) (later := []) timeout (hcut.append rfl) hroom

end Change

/-- Settles O29, from the cases of `Port.takeChange`. -/
theorem reportedChangesOweRetracts : Obligations.ReportedChangesOweRetracts := by
  intro g n s hs
  refine ⟨rfl, ?_⟩
  rintro i p q hp hq held hheld waits hwaits
  have hok : RetractsOk p := by
    rw [hp]
    cases i
    · exact hs.1
    · exact hs.2
  have hchange : q = p.takeChange g n s.ackTimeout := by
    rw [hq, hp]
    cases i <;> rfl
  obtain rfl : held = p.holdsCopy g := Bool.eq_iff_iff.mpr (hheld.trans (holdsCopy_iff p g).symm)
  obtain rfl : waits = p.retracts.any (·.waitsFor g) := Bool.eq_iff_iff.mpr (hwaits.trans any_waitsFor.symm)
  have hslots : q.slots = slotsAfter g p := hchange ▸ takeChange_slots n _ p g
  rw [hslots]
  refine ⟨sparseGet_slotsAfter g p, fun hh hw => ?_, fun hw => ?_, fun hh hw hcount => ?_, fun hh hw hroom => ?_⟩
  · exact hchange.trans (takeChange_unheld n _ hh hw)
  · simp only [← raiseFor_eq]
    exact hchange.trans (takeChange_raised n _ hok hw)
  · exact hchange.trans (takeChange_waits n _ hok hh hw hcount)
  · exact hchange.trans (takeChange_sends n _ hok hh hw hroom)

/-! ### A matching Retract Done (O44) -/

/-- A list in order whose oldest entry is SENT lacks at most one credit once that entry has gone. -/
theorem retractsOk_behind_head {p : Port} {e : RetractEntry} {rest : List RetractEntry} (h : RetractsOk p)
    (hp : p.retracts = e :: rest) (he : e.mark = .sent) : ∃ sent waiting, MarkedCut rest sent waiting ∧
      sent.length < Config.maxSent ∧ (waiting ≠ [] → sent.length + 1 = Config.maxSent) ∧ (waiting.map (·.group)).Nodup := by
  obtain ⟨sent, waiting, ⟨hsplit, hsent, hwaiting⟩, hcount, hfull, hnodup⟩ := (retractsOk_iff p).mp h
  rw [hp] at hsplit
  cases sent with
  | nil =>
    have hmark := hwaiting e (by rw [show waiting = e :: rest from hsplit.symm]; exact List.mem_cons_self)
    simp [he] at hmark
  | cons d sent =>
    obtain ⟨rfl, rfl⟩ := List.cons.inj hsplit
    exact ⟨sent, waiting, ⟨rfl, fun c hc => hsent c (List.mem_cons_of_mem _ hc), hwaiting⟩, hcount, hfull, hnodup⟩

theorem retractDonePort_head {p : Port} {e : RetractEntry} {rest : List RetractEntry} (timeout : Byte)
    (hp : p.retracts = e :: rest) (he : e.mark = .sent) :
    retractDonePort timeout p = Port.rearmAckTimer timeout (Port.sendRetract timeout { p with retracts := rest }) := by
  simp [retractDonePort, hp, he]

/-- The credit that has come free goes to the oldest WAITING entry (R126). -/
theorem retractDonePort_sends {p : Port} {e w : RetractEntry} {sent later : List RetractEntry} (timeout : Byte) (h : RetractsOk p)
    (hp : p.retracts = e :: (sent ++ w :: later)) (he : e.mark = .sent) (hsent : ∀ d ∈ sent, d.mark = .sent)
    (hw : w.mark = .waiting) : retractDonePort timeout p =
      { p with retracts := sent ++ { w with mark := .sent } :: later, transmit := p.transmit ++ [.retract w.group w.gen]
               counters := { p.counters with retractsSent := satInc p.counters.retractsSent }
               ackTimer := .running (timeout.toNat * 100) } := by
  obtain ⟨sent', waiting, hcut', hroom, -⟩ := retractsOk_behind_head h hp he
  have hcut : MarkedCut (sent ++ w :: later) sent (w :: later) := markedCut_of_waiting hw hsent hcut'.pairwise
  rw [← hcut'.sentCount, hcut.sentCount] at hroom
  rw [retractDonePort_head timeout hp he, sendRetract_sends (p := { p with retracts := _ }) timeout hcut hroom]
  simp [Port.rearmAckTimer, Port.awaitsAck, ackTime]

/-- With nothing WAITING the list is one entry shorter, and the timer runs while the port still awaits something (R125). -/
theorem retractDonePort_rests {p : Port} {e : RetractEntry} {rest : List RetractEntry} (timeout : Byte)
    (hp : p.retracts = e :: rest) (he : e.mark = .sent) (hrest : ∀ d ∈ rest, d.mark = .sent) : retractDonePort timeout p =
      { p with retracts := rest
               ackTimer := if p.outstanding = none ∧ rest = [] then .stopped else .running (timeout.toNat * 100) } := by
  have hcut : MarkedCut rest rest [] := markedCut_of_sent hrest
  rw [retractDonePort_head timeout hp he, sendRetract_full (p := { p with retracts := rest }) timeout hcut fun hne => absurd rfl hne]
  have hawaits : ({ p with retracts := rest } : Port).awaitsAck = false ↔ p.outstanding = none ∧ rest = [] := by
    cases rest with
    | nil => simp [Port.awaitsAck]
    | cons d t => simp [Port.awaitsAck, hrest d List.mem_cons_self]
  simp only [Port.rearmAckTimer, ackTime, ← hawaits]
  cases ({ p with retracts := rest } : Port).awaitsAck <;> rfl

/-- The command of a matching Retract Done (R124). -/
theorem exec_retractDone_matched {i : PortId} {s : State} {e : RetractEntry} {rest : List RetractEntry} {g : BitVec 16}
    (hrun : Runs s) (hup : (s.port i).state = .up) (hp : (s.port i).retracts = e :: rest) (he : e.mark = .sent)
    (hg : g.toNat = e.group) : exec (.retractDone i g) s =
      .next (barrierCheck (completeGroup e.group (s.setPort i (retractDonePort s.ackTimeout (s.port i))))) := by
  have hfind : (s.port i).retracts.find? (·.mark == .sent) = some e := by simp [hp, he]
  simp only [exec, execRetractDone, unlessReset_runs hrun, hup, hfind, hg, if_true]
  rfl

/-- Settles O44: the port is `retractDonePort`, and `completeGroup` has its two cases. -/
theorem matchingRetractDonesAreTaken : Obligations.MatchingRetractDonesAreTaken := by
  rintro i s hrun hok p e rest rfl hup hp he g hg q s1 rfl hq
  have hport : q = retractDonePort s.ackTimeout (s.port i) := by
    rcases hq with ⟨sent, w, later, rfl, hsent, hw, rfl⟩ | ⟨hrest, rfl⟩
    · exact (retractDonePort_sends s.ackTimeout hok hp he hsent hw).symm
    · exact (retractDonePort_rests s.ackTimeout hp he hrest).symm
  rw [exec_retractDone_matched hrun hup hp he hg, ← hport]
  have hkept : (s.setPort i q).group e.group = s.group e.group := by simp
  rcases completeGroup_cases e.group (s.setPort i q) with ⟨hretiring, hnamed, heq⟩ | ⟨hnot, heq⟩ <;> rw [heq]
  · have hunnamed : ¬ (names (s.setPort i q).lp0 e.group ∨ names (s.setPort i q).lp1 e.group) := by
      rw [← named_iff, hnamed]; exact Bool.false_ne_true
    rw [hkept] at hretiring ⊢
    exact ⟨fun _ _ _ => rfl, fun hother => absurd hother (not_or.mpr ⟨not_not.mpr hretiring, hunnamed⟩)⟩
  · rw [hkept, named_iff] at hnot
    exact ⟨fun hretiring h0 h1 => absurd hnot (not_or.mpr ⟨not_not.mpr hretiring, not_or.mpr ⟨h0, h1⟩⟩), fun _ => rfl⟩

end Sys2Proof.Proofs
end

section
/-! PROOFS. What one command can do to the group records, the directories and the retract lists together. Every command's meaning is made of
the changes of `DirectoryChange`, but for the end of the init sweep (`exec_directoryChange`), so an invariant that ties the two ports to the
group records is proved once for each change (O7, O8). -/
namespace Sys2Proof.Proofs
open Sys2Proof.Machine Sys2Proof.Safety Sys2Proof.Claims

/-! ### The changes -/

/-- Two port records with the same directory and the same retract list. -/
structure SameDirectory (p q : Port) : Prop where
  slots : q.slots = p.slots
  retracts : q.retracts = p.retracts

/-- Two states that agree in the group records, both directories and both retract lists. -/
structure SameCopies (s t : State) : Prop where
  groups : t.table.groups = s.table.groups
  port : ∀ i, SameDirectory (s.port i) (t.port i)

/-- The changes of group records, directories and retract lists: a record is written and the change reported, a retirement completes in the
access that reports it (R35, R36), a Resolve records its copy (R115), a Retract Done is taken (R124), a port is reset (R91), and a full
reset empties all three. -/
inductive DirectoryChange : State → State → Prop where
  | same {s t : State} : SameCopies s t → DirectoryChange s t
  | written {s : State} (g : Nat) (r : Group) (n : Generation) : (r.state = .retiring → (s.group g).state = .retiring) →
      DirectoryChange s (reportChange g n (writeGroup g r s))
  | retired {s : State} (g : Nat) (r : Group) (n : Generation) :
      DirectoryChange s (completeGroup g (reportChange g n (writeGroup g r s)))
  | copied {s : State} (i : PortId) (e : ResolveEntry) :
      DirectoryChange s (s.setPort i (servedPort e (s.group e.index.toNat) s.settled (s.port i)))
  | retractDone {s : State} (i : PortId) {e : RetractEntry} : (s.port i).retracts.find? (·.mark == .sent) = some e →
      DirectoryChange s (completeGroup e.group (s.setPort i (retractDonePort s.ackTimeout (s.port i))))
  | portReset {s : State} (i : PortId) (new : PortState) : DirectoryChange s (portReset i new s)
  | emptied {s t : State} : t.table.groups = [] → (∀ i, (t.port i).slots = [] ∧ (t.port i).retracts = []) → DirectoryChange s t
  | trans {s m t : State} : DirectoryChange s m → DirectoryChange m t → DirectoryChange s t

/-- Every use of this meaning is such a change. -/
def ChangesDirectories (f : State → State) : Prop := ∀ s, DirectoryChange s (f s)

/-! ### Changes that leave all three -/

theorem SameDirectory.refl (p : Port) : SameDirectory p p := ⟨rfl, rfl⟩

theorem SameDirectory.trans {p q r : Port} (h : SameDirectory p q) (h' : SameDirectory q r) : SameDirectory p r :=
  ⟨h'.slots.trans h.slots, h'.retracts.trans h.retracts⟩

theorem sameDirectory_formVector (live : UplinkSet) (timeout : Byte) (p : Port) : SameDirectory p (p.formVector live timeout) := by
  rw [formVector_eq]; exact ⟨rfl, rfl⟩

theorem sameDirectory_takeReport (left live : UplinkSet) (timeout : Byte) (p : Port) :
    SameDirectory p (p.takeReport left live timeout) := by
  have hleft : SameDirectory p { p with ackUp := p.ackUp &&& ~~~left } := ⟨rfl, rfl⟩
  unfold Port.takeReport
  dsimp only
  split
  · split
    · exact hleft.trans (sameDirectory_formVector ..)
    · exact ⟨rfl, rfl⟩
  · exact hleft

theorem sameDirectory_acknowledge (v : DownVector) (live : UplinkSet) (timeout : Byte) (p : Port) :
    SameDirectory p (p.acknowledge v live timeout) := by
  unfold Port.acknowledge
  dsimp only
  split
  · rw [formVector_eq]; exact ⟨rfl, rfl⟩
  · split <;> exact ⟨rfl, rfl⟩

theorem SameCopies.refl (s : State) : SameCopies s s := ⟨rfl, fun _ => .refl _⟩

/-- A change that leaves the records, and each port's directory and retract list. -/
theorem SameCopies.of_both {s t : State} (hgroups : t.table.groups = s.table.groups) (h0 : SameDirectory s.lp0 t.lp0)
    (h1 : SameDirectory s.lp1 t.lp1) : SameCopies s t := by
  refine ⟨hgroups, fun i => ?_⟩
  cases i
  · exact h0
  · exact h1

theorem SameCopies.setPort {s : State} {i : PortId} {p : Port} (h : SameDirectory (s.port i) p) : SameCopies s (s.setPort i p) := by
  refine ⟨by simp, fun j => ?_⟩
  by_cases hj : i = j
  · subst hj; simpa using h
  · rw [State.port_setPort_ne s p hj]; exact .refl _

namespace DirectoryChange
variable {s m t r : State}

theorem refl (s : State) : DirectoryChange s s := .same (.refl s)

theorem setPort {i : PortId} {p : Port} (h : SameDirectory (s.port i) p) : DirectoryChange s (s.setPort i p) :=
  .same (.setPort h)

theorem of_both (hgroups : t.table.groups = s.table.groups) (h0 : SameDirectory s.lp0 t.lp0)
    (h1 : SameDirectory s.lp1 t.lp1) : DirectoryChange s t := .same (.of_both hgroups h0 h1)

/-- A change outside the group records and the ports. -/
theorem outside (hgroups : t.table.groups = s.table.groups) (h0 : t.lp0 = s.lp0) (h1 : t.lp1 = s.lp1) : DirectoryChange s t :=
  .of_both hgroups (h0 ▸ .refl _) (h1 ▸ .refl _)

/-- A further change outside the group records and the ports. -/
theorem andThen (h : DirectoryChange s t) (hgroups : r.table.groups = t.table.groups) (h0 : r.lp0 = t.lp0) (h1 : r.lp1 = t.lp1) :
    DirectoryChange s r := h.trans (.outside hgroups h0 h1)

/-- The same, before it. -/
theorem after (h : DirectoryChange m t) (hgroups : m.table.groups = s.table.groups) (h0 : m.lp0 = s.lp0) (h1 : m.lp1 = s.lp1) :
    DirectoryChange s t := .trans (.outside hgroups h0 h1) h

theorem formReply (h : DirectoryChange s t) (status : ReplyStatus) (payload : List Byte) :
    DirectoryChange s (formReply status payload t) := h.andThen rfl rfl rfl

theorem groupReply (h : DirectoryChange s t) (status : ReplyStatus) (g : Nat) : DirectoryChange s (groupReply status g t) :=
  h.formReply ..

end DirectoryChange

/-! ### The frames and accesses around a meaning -/

theorem changesDirectories_reply {status : ReplyStatus} {payload : State → List Byte} :
    ChangesDirectories fun s => formReply status (payload s) s := fun s => (DirectoryChange.refl s).formReply ..

theorem directoryChange_unlessReset {s t : State} {f : State → State} (h : unlessReset s f = .next t) (hf : ChangesDirectories f) :
    DirectoryChange s t := by
  rcases unlessReset_next h with ⟨-, rfl⟩ | ⟨-, rfl⟩
  · exact .refl t
  · exact hf s

theorem changesDirectories_judgeFrame {n : Nat} {serve : State → State} (hserve : ChangesDirectories serve) :
    ChangesDirectories (judgeFrame n serve) := by
  intro s
  rcases judgeFrame_cases n serve s with ⟨-, h⟩ | ⟨-, -, h⟩ | ⟨-, -, h⟩ <;> rw [h]
  · exact .refl s
  · exact (hserve _).after rfl rfl rfl
  · exact .outside rfl rfl rfl

theorem changesDirectories_takeRequest {α : Type} {dec : List Byte → Option α} {rest : List Byte} {serve : α → State → State}
    (hserve : ∀ a, ChangesDirectories (serve a)) : ChangesDirectories (takeRequest dec rest serve) := by
  refine changesDirectories_judgeFrame fun s => ?_
  split
  · exact (DirectoryChange.refl s).formReply ..
  · exact hserve _ s

theorem changesDirectories_takeOwnRequest {α : Type} {dec : List Byte → Option α} {own : α → Bool} {rest : List Byte}
    {serve : α → State → State} (hserve : ∀ a, ChangesDirectories (serve a)) :
    ChangesDirectories (takeOwnRequest dec own rest serve) := by
  intro s
  unfold takeOwnRequest
  split
  · exact changesDirectories_takeRequest hserve s
  · exact .refl s

theorem directoryChange_takeRequest {α : Type} {dec : List Byte → Option α} {rest : List Byte} {serve : α → State → State}
    {s t : State} (h : unlessReset s (takeRequest dec rest serve) = .next t) (hserve : ∀ a, ChangesDirectories (serve a)) :
    DirectoryChange s t := directoryChange_unlessReset h (changesDirectories_takeRequest hserve)

theorem directoryChange_takeOwnRequest {α : Type} {dec : List Byte → Option α} {own : α → Bool} {rest : List Byte}
    {serve : α → State → State} {s t : State} (h : unlessReset s (takeOwnRequest dec own rest serve) = .next t)
    (hserve : ∀ a, ChangesDirectories (serve a)) : DirectoryChange s t :=
  directoryChange_unlessReset h (changesDirectories_takeOwnRequest hserve)

theorem changesDirectories_whenReady {serve : State → State} (hserve : ChangesDirectories serve) :
    ChangesDirectories (whenReady serve) := by
  intro s
  unfold whenReady
  split
  · exact hserve s
  · exact (DirectoryChange.refl s).formReply ..

theorem changesDirectories_access {q : Requester} {f : State → State} (hf : ChangesDirectories f) :
    ChangesDirectories (access q f) := by
  intro s
  rcases access_cases q f s with ⟨-, h⟩ | ⟨-, h⟩ <;> rw [h]
  · exact (hf _).after rfl rfl rfl
  · exact .refl s

/-! ### Uplink Watch -/

theorem changesDirectories_watchStep (us : Vector Uplink 32) : ChangesDirectories (watchStep us) := by
  intro s
  have hflag : DirectoryChange s (State.raiseIf { s with uplinks := us } (anyEntered s.uplinks us) flagUplink) :=
    .outside (by simp) (by simp) (by simp)
  unfold watchStep reportLive
  split
  · exact hflag
  · refine hflag.trans (.of_both (by simp) ?_ ?_) <;> simp only [resettle_lp0, resettle_lp1] <;> exact sameDirectory_takeReport ..

theorem changesDirectories_stepUplink (u : Fin 32) (f : Uplink → Uplink) : ChangesDirectories (stepUplink u f) :=
  fun s => changesDirectories_watchStep _ s

theorem changesDirectories_stepUplinks (us : UplinkSet) (f : Fin 32 → Uplink → Uplink) : ChangesDirectories (stepUplinks us f) :=
  fun s => changesDirectories_watchStep _ s

theorem changesDirectories_goodFrame (bits : BitVec 68) : ChangesDirectories (goodFrame bits) := fun _ =>
  (changesDirectories_stepUplinks _ _ _).after (by simp) (by simp) (by simp)

theorem changesDirectories_badFrame : ChangesDirectories badFrame := fun s => by
  rw [badFrame]; exact .outside (by simp) (by simp) (by simp)

theorem changesDirectories_enableScan (period : BitVec 16) : ChangesDirectories (enableScan period) := by
  intro s
  unfold enableScan
  split
  · exact (changesDirectories_stepUplinks _ _ _).after rfl rfl rfl
  · exact .outside rfl rfl rfl

theorem changesDirectories_disableScan (period : BitVec 16) : ChangesDirectories (disableScan period) := by
  intro s
  unfold disableScan
  split
  · exact .outside rfl rfl rfl
  · exact (changesDirectories_stepUplinks _ _ _).after (by simp) (by simp) (by simp)

/-! ### The Path Table and the Walk Engine -/

theorem changesDirectories_presentGroupRequest (g : Nat) (members : Option (List Member)) (r : GroupRequest) :
    ChangesDirectories (presentGroupRequest g members r) := by
  refine changesDirectories_whenReady fun s => ?_
  split
  · exact (DirectoryChange.refl s).formReply ..
  · split
    · exact (DirectoryChange.refl s).formReply ..
    · exact .outside rfl rfl rfl

theorem changesDirectories_installAccess (f : InstallFields) : ChangesDirectories (installAccess f) := by
  intro s
  cases hs : (s.group f.group).state with
  | active => rw [installAccess_active hs]; exact (DirectoryChange.refl s).groupReply ..
  | retiring => rw [installAccess_retiring hs]; exact (DirectoryChange.refl s).groupReply ..
  | free =>
    rw [installAccess_free hs]
    exact (DirectoryChange.written _ _ _ (by rintro ⟨⟩)).groupReply ..

theorem changesDirectories_modifyAccess (f : ModifyFields) : ChangesDirectories (modifyAccess f) := by
  intro s
  cases href : refusalOf f.expected (s.group f.group) with
  | some status => rw [modifyAccess_refused href]; exact (DirectoryChange.refl s).groupReply ..
  | none =>
    cases hnew : sameContent (s.group f.group) (modifiedGroup f (s.group f.group) s.settled) with
    | true => rw [modifyAccess_unchanged href hnew]; exact (DirectoryChange.refl s).groupReply ..
    | false =>
      have hstate : (rewrittenGroup f (s.group f.group) s.settled).state = (s.group f.group).state := rfl
      rw [modifyAccess_changed href hnew]
      exact (DirectoryChange.written f.group _ _ fun hretiring => hstate.symm.trans hretiring).groupReply ..

theorem changesDirectories_retireAccess (g : Nat) (expected : Generation) : ChangesDirectories (retireAccess g expected) := by
  intro s
  cases href : refusalOf expected (s.group g) with
  | some status => rw [retireAccess_refused href]; exact (DirectoryChange.refl s).groupReply ..
  | none => rw [retireAccess_applied href]; exact (DirectoryChange.retired ..).groupReply ..

theorem changesDirectories_surveyAccess (v : Survey) : ChangesDirectories (surveyAccess v) := by
  intro s
  unfold surveyAccess
  dsimp only
  split <;> exact .outside rfl rfl rfl

theorem changesDirectories_rebalance (first count : Nat) : ChangesDirectories (rebalance first count) := by
  intro s
  unfold rebalance
  split
  · exact (DirectoryChange.refl s).formReply ..
  · split
    · exact (DirectoryChange.refl s).formReply ..
    · exact .outside (by simp) (by simp) (by simp)

theorem changesDirectories_endJob : ChangesDirectories endJob := fun _ => .outside (by simp [endJob]) (by simp [endJob]) (by simp [endJob])

/-- A visit that writes keeps the group's state. -/
theorem changesDirectories_persist (g : Nat) (map : BucketMap) : ChangesDirectories (persist g map) := by
  intro s
  rcases persist_cases g map s with ⟨-, h⟩ | ⟨-, h⟩ <;> rw [h]
  · exact .refl s
  · rw [← writeGroup_sameLinks (g := g) (r := { s.group g with map := map, gen := nextGen (s.group g).gen }) rfl]
    exact .written _ _ _ id

theorem changesDirectories_uplinkVisit (u : Fin 32) (g : Nat) : ChangesDirectories (uplinkVisit u g) := by
  intro s
  have hvisit : DirectoryChange s (countVisit (persist g ((s.group g).effectiveMap s.settled) s)) :=
    (changesDirectories_persist g _ s).andThen rfl rfl rfl
  unfold uplinkVisit
  dsimp only
  split
  · exact hvisit.andThen rfl rfl rfl
  · exact hvisit.trans (changesDirectories_endJob _)

theorem changesDirectories_sweepJobVisit (first count next : Nat) : ChangesDirectories (sweepJobVisit first count next) := by
  intro s
  have hwrite : DirectoryChange s (sweepWrite next s) := by
    unfold sweepWrite
    split
    · exact changesDirectories_persist _ _ s
    · exact .refl s
  have hvisit : DirectoryChange s (countVisit (sweepWrite next s)) := hwrite.andThen rfl rfl rfl
  unfold sweepJobVisit
  dsimp only
  split
  · exact hvisit.trans ((changesDirectories_endJob _).after rfl rfl rfl)
  · exact hvisit.andThen rfl rfl rfl

/-! ### The ports -/

theorem changesDirectories_protocolError (i : PortId) : ChangesDirectories (protocolError i) := by
  intro s
  unfold protocolError
  split
  · exact .portReset i .fault
  · exact .refl s

theorem directoryChange_lock (i : PortId) (b : Bool) (s : State) : DirectoryChange s (s.setPort i { s.port i with locked := b }) :=
  .setPort ⟨rfl, rfl⟩

theorem changesDirectories_enterSync (i : PortId) : ChangesDirectories (enterSync i) := by
  intro s
  have hport : SameDirectory (s.port i) (Port.formVector s.live s.ackTimeout { s.port i with state := .sync }) := by
    rw [formVector_eq]; exact ⟨rfl, rfl⟩
  exact (DirectoryChange.setPort hport).andThen rfl rfl rfl

theorem changesDirectories_syncIfLocked (i : PortId) :
    ChangesDirectories fun s => if (s.port i).locked then enterSync i s else s := by
  intro s
  dsimp only
  split
  · exact changesDirectories_enterSync i s
  · exact .refl s

theorem changesDirectories_takeHeldLocks : ChangesDirectories takeHeldLocks := fun s =>
  .trans (changesDirectories_syncIfLocked .lp0 s) (changesDirectories_syncIfLocked .lp1 _)

theorem changesDirectories_fullReset : ChangesDirectories State.fullReset := fun s =>
  .emptied rfl fun i => by cases i <;> exact ⟨rfl, rfl⟩

theorem changesDirectories_readFrame (clocked : Nat) : ChangesDirectories (readFrame clocked) := by
  intro s
  have hreset (m : Mgmt) : DirectoryChange s (requestedReset { s with mgmt := m }) :=
    .after (.trans (changesDirectories_fullReset _) (changesDirectories_takeHeldLocks _)) rfl rfl rfl
  unfold readFrame
  split
  · exact .refl s
  · split
    · dsimp only
      split
      · exact (hreset _).andThen rfl rfl rfl
      · exact .outside rfl rfl rfl
    · exact .outside rfl rfl rfl

theorem changesDirectories_serveResolve (i : PortId) : ChangesDirectories (serveResolve i) := by
  intro s
  cases hfind : (s.port i).answers.find? ResolveEntry.unserved with
  | none => simp only [serveResolve, hfind]; exact .refl s
  | some e => rw [serveResolve_eq hfind]; exact .copied i e

theorem directoryChange_ackTaken (i : PortId) (v : DownVector) (s : State) : DirectoryChange s (ackTaken i v s) := by
  have hport : DirectoryChange s (s.setPort i ((s.port i).acknowledge v s.live s.ackTimeout)) :=
    .setPort (sameDirectory_acknowledge ..)
  unfold ackTaken
  dsimp only
  split <;> exact hport.andThen (by simp) (by simp) (by simp)

/-- A matching Retract Done completes at most the retirement it waited for (R127). -/
theorem directoryChange_takeRetractDone {i : PortId} {e : RetractEntry} {s : State}
    (h : (s.port i).retracts.find? (·.mark == .sent) = some e) : DirectoryChange s (takeRetractDone i e s) :=
  (DirectoryChange.retractDone i h).andThen (by simp [takeRetractDone, retractDonePort]) (by simp [takeRetractDone, retractDonePort])
    (by simp [takeRetractDone, retractDonePort])

/-! ### Every command -/

theorem directoryChange_scanFrameStart {s t : State} (h : execScanFrameStart s = .next t) : DirectoryChange s t := by
  refine directoryChange_unlessReset h fun s => ?_
  split
  · exact .refl s
  · exact .outside rfl rfl rfl

theorem directoryChange_scanFrameJudged {bits : BitVec 68} {s t : State} (h : execScanFrameJudged bits s = .next t) :
    DirectoryChange s t := by
  refine directoryChange_unlessReset h fun s => ?_
  split
  · exact .refl s
  · split
    · exact changesDirectories_goodFrame bits s
    · exact changesDirectories_badFrame s

theorem directoryChange_installGroup {stage : AccessStage} {s t : State} (h : execInstallGroup stage s = .next t) :
    DirectoryChange s t := by
  refine directoryChange_unlessReset h fun s => ?_
  split
  · exact changesDirectories_takeRequest (fun f => changesDirectories_presentGroupRequest _ _ _) s
  · split
    · exact changesDirectories_access (changesDirectories_installAccess _) s
    · exact .refl s

theorem directoryChange_modifyGroup {stage : AccessStage} {s t : State} (h : execModifyGroup stage s = .next t) :
    DirectoryChange s t := by
  refine directoryChange_unlessReset h fun s => ?_
  split
  · exact changesDirectories_takeRequest (fun f => changesDirectories_presentGroupRequest _ _ _) s
  · split
    · exact changesDirectories_access (changesDirectories_modifyAccess _) s
    · exact .refl s

theorem directoryChange_retireGroup {stage : AccessStage} {s t : State} (h : execRetireGroup stage s = .next t) :
    DirectoryChange s t := by
  refine directoryChange_unlessReset h fun s => ?_
  split
  · exact changesDirectories_takeRequest (fun f => changesDirectories_presentGroupRequest _ _ _) s
  · split
    · exact changesDirectories_access (changesDirectories_retireAccess _ _) s
    · exact .refl s

theorem directoryChange_readGroup {stage : AccessStage} {s t : State} (h : execReadGroup stage s = .next t) :
    DirectoryChange s t := by
  refine directoryChange_unlessReset h fun s => ?_
  split
  · exact changesDirectories_takeRequest (fun f => changesDirectories_presentGroupRequest _ _ _) s
  · split
    · exact changesDirectories_access changesDirectories_reply s
    · exact .refl s

theorem directoryChange_rangeSurvey {rest : List Byte} {s t : State} (h : execRangeSurvey rest s = .next t) :
    DirectoryChange s t := by
  refine directoryChange_takeRequest h fun f => changesDirectories_whenReady fun s => ?_
  split <;> exact .outside rfl rfl rfl

theorem directoryChange_rangeSurveyAccess {s t : State} (h : execRangeSurveyAccess s = .next t) : DirectoryChange s t := by
  refine directoryChange_unlessReset h fun s => ?_
  split
  · exact changesDirectories_access (changesDirectories_surveyAccess _) s
  · exact .refl s

theorem directoryChange_uplinkJobVisit {s t : State} (h : execUplinkJobVisit s = .next t) : DirectoryChange s t := by
  refine directoryChange_unlessReset h fun s => ?_
  split
  · exact changesDirectories_access (changesDirectories_uplinkVisit _ _) s
  · exact .refl s

theorem directoryChange_closingAccess {s t : State} (h : execClosingAccess s = .next t) : DirectoryChange s t := by
  refine directoryChange_unlessReset h fun s => ?_
  split
  · exact changesDirectories_access changesDirectories_endJob s
  · exact .refl s

theorem directoryChange_sweepVisit {s t : State} (h : execSweepVisit s = .next t) : DirectoryChange s t := by
  refine directoryChange_unlessReset h fun s => ?_
  split
  · exact changesDirectories_access (changesDirectories_sweepJobVisit _ _ _) s
  · exact .refl s

theorem changesDirectories_takeBarrier (f : BarrierFields) : ChangesDirectories (takeBarrier f) := fun _ =>
  .outside (by simp [takeBarrier]) (by simp [takeBarrier]) (by simp [takeBarrier])

theorem directoryChange_barrierTimerExpiry {s t : State} (h : execBarrierTimerExpiry s = .next t) : DirectoryChange s t := by
  refine directoryChange_unlessReset h fun s => ?_
  split
  · split <;> exact .outside rfl rfl rfl
  · exact .refl s

theorem directoryChange_unknownRequestKind {kind : Byte} {rest : List Byte} {s t : State}
    (h : execUnknownRequestKind kind rest s = .next t) : DirectoryChange s t := by
  refine directoryChange_unlessReset h fun s => ?_
  split
  · exact changesDirectories_judgeFrame changesDirectories_reply s
  · exact .refl s

theorem directoryChange_requestDropped {frame : List Byte} {s t : State} (h : execRequestDropped frame s = .next t) :
    DirectoryChange s t := by
  refine directoryChange_unlessReset h fun s => ?_
  split
  · exact changesDirectories_judgeFrame DirectoryChange.refl s
  · exact .refl s

theorem directoryChange_laneLockGained {i : PortId} {s t : State} (h : execLaneLockGained i s = .next t) : DirectoryChange s t := by
  cases h
  split
  · exact directoryChange_lock i true s
  · split
    · exact (directoryChange_lock i true s).trans (changesDirectories_enterSync i _)
    · exact directoryChange_lock i true s

theorem directoryChange_laneLockLost {i : PortId} {s t : State} (h : execLaneLockLost i s = .next t) : DirectoryChange s t := by
  cases h
  split
  · exact directoryChange_lock i false s
  · split
    · exact directoryChange_lock i false s
    · exact (directoryChange_lock i false s).trans (.portReset i .down)

theorem directoryChange_resolve {i : PortId} {index : BitVec 16} {s t : State} (h : execResolve i index s = .next t) :
    DirectoryChange s t := by
  refine directoryChange_unlessReset h fun s => ?_
  dsimp only
  split
  · exact .refl s
  · split
    · exact changesDirectories_protocolError i s
    · exact .setPort ⟨rfl, rfl⟩

theorem directoryChange_vectorAck {i : PortId} {sequence : Byte} {s t : State} (h : execVectorAck i sequence s = .next t) :
    DirectoryChange s t := by
  refine directoryChange_unlessReset h fun s => ?_
  dsimp only
  split
  · exact .refl s
  · split
    · exact changesDirectories_protocolError i s
    · split
      · exact changesDirectories_protocolError i s
      · exact directoryChange_ackTaken i _ s

theorem directoryChange_retractDone {i : PortId} {group : BitVec 16} {s t : State} (h : execRetractDone i group s = .next t) :
    DirectoryChange s t := by
  refine directoryChange_unlessReset h fun s => ?_
  dsimp only
  split
  · split
    · exact changesDirectories_protocolError i s
    next hfind =>
      split
      · exact directoryChange_takeRetractDone hfind
      · exact changesDirectories_protocolError i s
  · exact changesDirectories_protocolError i s
  · exact .refl s
  · exact .refl s

/-- A message that is an error under some condition. -/
theorem directoryChange_laneError {p : State → Prop} [DecidablePred p] {i : PortId} {s t : State}
    (h : unlessReset s (fun s => if p s then protocolError i s else s) = .next t) : DirectoryChange s t := by
  refine directoryChange_unlessReset h fun s => ?_
  split
  · exact changesDirectories_protocolError i s
  · exact .refl s

theorem directoryChange_ackTimerExpiry {i : PortId} {s t : State} (h : execAckTimerExpiry i s = .next t) : DirectoryChange s t := by
  refine directoryChange_unlessReset h fun s => ?_
  split
  · exact .refl s
  · exact changesDirectories_protocolError i s

theorem directoryChange_answerLeaves {i : PortId} {s t : State} (h : execAnswerLeaves i s = .next t) : DirectoryChange s t := by
  refine directoryChange_unlessReset h fun s => ?_
  split
  · exact .setPort ⟨rfl, rfl⟩
  · exact .refl s

theorem directoryChange_messageLeaves {i : PortId} {s t : State} (h : execMessageLeaves i s = .next t) : DirectoryChange s t := by
  refine directoryChange_unlessReset h fun s => ?_
  split
  · exact .refl s
  · exact .refl s
  · exact .setPort ⟨rfl, rfl⟩

/-- The init sweep ends: the table's records are dropped, and no port hears of it (R46, log 8). -/
structure SweepEnds (s t : State) : Prop where
  init : s.table.ready = false
  groups : t.table.groups = []
  port : ∀ i, t.port i = s.port i

theorem directoryChange_initSweepEnd {s t : State} (h : execInitSweepEnd s = .next t) : DirectoryChange s t ∨ SweepEnds s t := by
  rcases unlessReset_next h with ⟨-, rfl⟩ | ⟨-, rfl⟩
  · exact .inl (.refl t)
  · split
    · exact .inl (.refl s)
    next hinit => exact .inr ⟨by simpa using hinit, rfl, fun i => by cases i <;> rfl⟩

/-- What a command does to group records, directories and retract lists: a change of `DirectoryChange`, or the end of the init sweep. -/
theorem exec_directoryChange (c : Instr) {s t : State} (h : exec c s = .next t) : DirectoryChange s t ∨ SweepEnds s t := by
  cases c with
  | initSweepEnd => exact directoryChange_initSweepEnd h
  | porstNAssert =>
    cases h
    split
    · exact .inl (.refl s)
    · exact .inl ((changesDirectories_fullReset s).andThen rfl rfl rfl)
  | porstNRelease =>
    cases h
    split
    · exact .inl ((changesDirectories_takeHeldLocks _).after rfl rfl rfl)
    · exact .inl (.refl s)
  | filteredLineLevelChange u level => exact .inl (directoryChange_unlessReset h (changesDirectories_stepUplink u _))
  | scanFrameStart => exact .inl (directoryChange_scanFrameStart h)
  | scanFrameJudged bits => exact .inl (directoryChange_scanFrameJudged h)
  | qualifyTimerExpiry u => exact .inl (directoryChange_unlessReset h (changesDirectories_stepUplink u _))
  | restoreTimerExpiry u => exact .inl (directoryChange_unlessReset h (changesDirectories_stepUplink u _))
  | holdTimerExpiry u => exact .inl (directoryChange_unlessReset h (changesDirectories_stepUplink u _))
  | windowTimerExpiry u => exact .inl (directoryChange_unlessReset h (changesDirectories_stepUplink u _))
  | configureUplink rest =>
    exact .inl (directoryChange_takeRequest h fun f s => (changesDirectories_stepUplink f.1 _ s).formReply ..)
  | setAdminClear rest =>
    exact .inl (directoryChange_takeOwnRequest h fun f s => (changesDirectories_stepUplinks f.2 _ s).formReply ..)
  | setAdminSet rest =>
    exact .inl (directoryChange_takeOwnRequest h fun f s => (changesDirectories_stepUplinks f.2 _ s).formReply ..)
  | configureScanEnable rest =>
    exact .inl (directoryChange_takeOwnRequest h fun f s => (changesDirectories_enableScan f.2 s).formReply ..)
  | configureScanDisable rest =>
    exact .inl (directoryChange_takeOwnRequest h fun f s => (changesDirectories_disableScan f.2 s).formReply ..)
  | readUplink rest => exact .inl (directoryChange_takeRequest h fun _ => changesDirectories_reply)
  | installGroup stage => exact .inl (directoryChange_installGroup h)
  | modifyGroup stage => exact .inl (directoryChange_modifyGroup h)
  | retireGroup stage => exact .inl (directoryChange_retireGroup h)
  | readGroup stage => exact .inl (directoryChange_readGroup h)
  | rangeSurvey rest => exact .inl (directoryChange_rangeSurvey h)
  | rangeSurveyAccess => exact .inl (directoryChange_rangeSurveyAccess h)
  | rebalanceRange rest =>
    exact .inl (directoryChange_takeRequest h fun f => changesDirectories_whenReady (changesDirectories_rebalance _ _))
  | uplinkJobVisit => exact .inl (directoryChange_uplinkJobVisit h)
  | closingAccess => exact .inl (directoryChange_closingAccess h)
  | sweepVisit => exact .inl (directoryChange_sweepVisit h)
  | barrier rest =>
    exact .inl (directoryChange_takeRequest h fun f => changesDirectories_whenReady (changesDirectories_takeBarrier f))
  | barrierTimerExpiry => exact .inl (directoryChange_barrierTimerExpiry h)
  | identify rest => exact .inl (directoryChange_takeRequest h fun _ => changesDirectories_reply)
  | readStatus rest => exact .inl (directoryChange_takeRequest h fun _ => changesDirectories_reply)
  | configurePorts rest => exact .inl (directoryChange_takeRequest h fun _ _ => .outside rfl rfl rfl)
  | readEvents rest => exact .inl (directoryChange_takeRequest h fun _ _ => .outside rfl rfl rfl)
  | setEventEnablesSet rest => exact .inl (directoryChange_takeOwnRequest h fun _ _ => .outside rfl rfl rfl)
  | setEventEnablesClear rest => exact .inl (directoryChange_takeOwnRequest h fun _ _ => .outside rfl rfl rfl)
  | readCounters rest => exact .inl (directoryChange_takeOwnRequest h fun _ => changesDirectories_reply)
  | readCountersClear rest =>
    exact .inl (directoryChange_takeOwnRequest h fun _ _ => .of_both rfl ⟨rfl, rfl⟩ ⟨rfl, rfl⟩)
  | fullResetRequest rest => exact .inl (directoryChange_takeRequest h fun _ _ => .outside rfl rfl rfl)
  | unknownRequestKind kind rest => exact .inl (directoryChange_unknownRequestKind h)
  | requestDropped frame => exact .inl (directoryChange_requestDropped h)
  | readFrame clocked => exact .inl (directoryChange_unlessReset h (changesDirectories_readFrame clocked))
  | mrstNAssert => cases h; exact .inl (.outside rfl rfl rfl)
  | mrstNRelease => cases h; exact .inl (.outside rfl rfl rfl)
  | laneLockGained i => exact .inl (directoryChange_laneLockGained h)
  | laneLockLost i => exact .inl (directoryChange_laneLockLost h)
  | resolve i index => exact .inl (directoryChange_resolve h)
  | resolveAccess i => exact .inl (directoryChange_unlessReset h (changesDirectories_access (changesDirectories_serveResolve i)))
  | vectorAck i sequence => exact .inl (directoryChange_vectorAck h)
  | retractDone i group => exact .inl (directoryChange_retractDone h)
  | unknownKind i bytes => exact .inl (directoryChange_laneError (p := fun _ => decodeLane bytes = .unknown) h)
  | ackTimerExpiry i => exact .inl (directoryChange_ackTimerExpiry h)
  | answerLeaves i => exact .inl (directoryChange_answerLeaves h)
  | messageLeaves i => exact .inl (directoryChange_messageLeaves h)
  | wrongLengthMessage i bytes => exact .inl (directoryChange_laneError (p := fun _ => decodeLane bytes = .wrongLength) h)

/-- A step takes the front command off the queue, which changes none of the three. -/
theorem step_directoryChange {s t : State} (h : step s = .next t) : DirectoryChange s t ∨ SweepEnds s t := by
  rcases step_cases h with rfl | ⟨c, rest, hexec⟩
  · exact .inl (.refl t)
  · rcases exec_directoryChange c hexec with hmade | ⟨hinit, hgroups, hport⟩
    · exact .inl (hmade.after rfl rfl rfl)
    · exact .inr ⟨hinit, hgroups, fun i => by cases i <;> exact hport _⟩

end Sys2Proof.Proofs
end

section
/-! PROOFS. Every step keeps the retract lists in order and every RETIRING group named (O7). -/
namespace Sys2Proof.Proofs
open Sys2Proof.Machine Sys2Proof.Safety Sys2Proof.Claims

/-! ### One retract list (R117, R121) -/

theorem retractsOk_congr {p q : Port} (h : q.retracts = p.retracts) (hp : RetractsOk p) : RetractsOk q := by
  rw [RetractsOk, h]; exact hp

theorem retractsOk_nil {p : Port} (h : p.retracts = []) : RetractsOk p := by
  rw [RetractsOk, h]
  exact ⟨List.Pairwise.nil, Nat.zero_le _, fun hany => by simp at hany, List.nodup_nil⟩

theorem retractsOk_takeChange {p : Port} (g : Nat) (n : Generation) (timeout : Byte) (h : RetractsOk p) :
    RetractsOk (p.takeChange g n timeout) := by
  obtain ⟨sent, waiting, hcut, hcount, hfull, hnodup⟩ := (retractsOk_iff p).mp h
  rcases takeChange_cases n timeout p g with ⟨-, -, heq⟩ | ⟨-, heq⟩ | ⟨-, hwaits, heq⟩ <;> rw [heq]
  · exact h
  · refine retractsOk_sendRetract timeout (hcut.map (raiseFor_mark g n)) (by simpa using hcount)
      (fun hne => .inl (by simpa using hfull (by simpa using hne))) ?_
    simpa [List.map_map, Function.comp_def, raiseFor_group] using hnodup
  · have hnew : g ∉ waiting.map (·.group) := by
      rintro hg
      obtain ⟨e, he, hgroup⟩ := List.mem_map.mp hg
      have hwaiting := any_waitsFor.mpr ⟨e, hcut.split ▸ List.mem_append_right _ he, hcut.waiting e he, hgroup⟩
      exact absurd (hwaits.symm.trans hwaiting) (by decide)
    refine retractsOk_sendRetract timeout (hcut.append rfl) hcount (fun _ => ?_) ?_
    · by_cases hnone : waiting = []
      · exact .inr (.inr (by simp [hnone]))
      · exact .inl (hfull hnone)
    · rw [List.map_append]
      exact hnodup.append (List.nodup_singleton _) (by simpa [owedEntry] using hnew)

/-- The oldest SENT entry stands at the head (R124). -/
theorem head_of_find_sent {p : Port} {e : RetractEntry} (h : RetractsOk p) (hfind : p.retracts.find? (·.mark == .sent) = some e) :
    ∃ rest, p.retracts = e :: rest ∧ e.mark = .sent := by
  obtain ⟨sent, waiting, ⟨hsplit, hsent, hwaiting⟩, -⟩ := (retractsOk_iff p).mp h
  have hmark : e.mark = .sent := by simpa using List.find?_some hfind
  have hnone : waiting.find? (·.mark == .sent) = none := List.find?_eq_none.mpr fun d hd => by simp [hwaiting d hd]
  cases sent with
  | nil =>
    rw [hsplit, List.nil_append, hnone] at hfind
    cases hfind
  | cons d sent =>
    rw [hsplit, List.cons_append, List.find?_cons_of_pos (by simp [hsent d List.mem_cons_self])] at hfind
    cases hfind
    exact ⟨sent ++ waiting, hsplit, hmark⟩

theorem retractsOk_retractDone {p : Port} {e : RetractEntry} {rest : List RetractEntry} (timeout : Byte) (h : RetractsOk p)
    (hp : p.retracts = e :: rest) (he : e.mark = .sent) : RetractsOk (retractDonePort timeout p) := by
  obtain ⟨sent, waiting, hcut, hroom, hfull, hnodup⟩ := retractsOk_behind_head h hp he
  have hsent := retractsOk_sendRetract (p := { p with retracts := rest }) timeout hcut (Nat.le_of_lt hroom)
    (fun hne => .inr (.inl (hfull hne))) hnodup
  rw [retractDonePort_head timeout hp he]
  exact retractsOk_congr rfl hsent

/-! ### The groups a list names (R36) -/

theorem names_of_groups {p q : Port} {g : Nat} (h : q.retracts.map (·.group) = p.retracts.map (·.group)) : names q g ↔ names p g := by
  have hmem (r : Port) : names r g ↔ g ∈ r.retracts.map (·.group) := List.mem_map.symm
  rw [hmem, hmem, h]

theorem map_group_markOldest (l : List RetractEntry) : (markOldest l).map (·.group) = l.map (·.group) := by
  induction l with
  | nil => rfl
  | cons e t ih => unfold markOldest; split <;> simp [ih]

/-- An entry that is sent names its group as before. -/
theorem names_sendRetract (timeout : Byte) (p : Port) (g : Nat) : names (p.sendRetract timeout) g ↔ names p g := by
  rcases p.sendRetract_cases timeout with ⟨e, -, -, heq⟩ | ⟨-, heq⟩ <;> rw [heq]
  rw [startAckTimer_eq_ite]
  exact names_of_groups (map_group_markOldest _)

/-- A change takes no name off the list. -/
theorem names_takeChange {p : Port} {k : Nat} (g : Nat) (n : Generation) (timeout : Byte) (h : names p k) :
    names (p.takeChange g n timeout) k := by
  rcases takeChange_cases n timeout p g with ⟨-, -, heq⟩ | ⟨-, heq⟩ | ⟨-, -, heq⟩ <;> rw [heq]
  · exact h
  · refine (names_sendRetract _ _ _).mpr ((names_of_groups ?_).mpr h)
    simp [raiseFor_group]
  · obtain ⟨e, he, hg⟩ := h
    exact (names_sendRetract _ _ _).mpr ⟨e, List.mem_append_left _ he, hg⟩

/-- A Retract Done takes one name off the list, that of the entry at its head. -/
theorem names_retractDone {p : Port} {e : RetractEntry} {rest : List RetractEntry} {k : Nat} (timeout : Byte)
    (hp : p.retracts = e :: rest) (he : e.mark = .sent) (hne : k ≠ e.group) (h : names p k) : names (retractDonePort timeout p) k := by
  have hrest : names { p with retracts := rest } k := by
    obtain ⟨d, hd, hk⟩ := h
    rw [hp] at hd
    rcases List.mem_cons.mp hd with rfl | hd
    · exact absurd hk.symm hne
    · exact ⟨d, hd, hk⟩
  rw [retractDonePort_head timeout hp he]
  exact (names_sendRetract timeout _ k).mpr hrest

/-! ### The invariant, group by group -/

/-- Some port's retract list names the group. -/
def NamedBySome (s : State) (g : Nat) : Prop := ∃ i, names (s.port i) g

theorem namedBySome_iff (s : State) (g : Nat) : NamedBySome s g ↔ s.named g = true := by
  rw [named_iff]
  constructor
  · rintro ⟨i, h⟩
    cases i
    · exact .inl h
    · exact .inr h
  · rintro (h | h)
    · exact ⟨.lp0, h⟩
    · exact ⟨.lp1, h⟩

/-- `RetractsInv` with its conditions read by port and by group number. -/
structure RetractOrder (s : State) : Prop where
  lists : ∀ i, RetractsOk (s.port i)
  wf : SparseWf Group.reset s.table.groups
  named : ∀ g, (s.group g).state = .retiring → NamedBySome s g

theorem retractsInv_iff (s : State) : RetractsInv s ↔ RetractOrder s := by
  constructor
  · rintro ⟨⟨h0, h1⟩, hwf, hnamed⟩
    refine ⟨fun i => by cases i <;> assumption, hwf, fun g hg => (namedBySome_iff s g).mpr (hnamed _ (s.mem_of_group g ?_) hg)⟩
    intro hreset
    rw [hreset] at hg
    cases hg
  · rintro ⟨hlists, hwf, hnamed⟩
    refine ⟨⟨hlists .lp0, hlists .lp1⟩, hwf, fun e he hretiring => (namedBySome_iff s e.1).mp (hnamed e.1 ?_)⟩
    rw [s.group_of_mem hwf he]
    exact hretiring

/-! ### Each change keeps it -/

theorem RetractOrder.of_empty {t : State} (hlists : ∀ i, RetractsOk (t.port i)) (hgroups : t.table.groups = []) : RetractOrder t := by
  refine ⟨hlists, by rw [hgroups]; exact sparseWf_nil _, fun g hg => ?_⟩
  rw [State.group, hgroups] at hg
  cases hg

theorem RetractOrder.same {s t : State} (h : SameCopies s t) (hs : RetractOrder s) : RetractOrder t := by
  refine ⟨fun i => retractsOk_congr (h.port i).retracts (hs.lists i), h.groups ▸ hs.wf, fun g hg => ?_⟩
  rw [State.group, h.groups] at hg
  obtain ⟨i, hnames⟩ := hs.named g hg
  exact ⟨i, (names_of_groups (by rw [(h.port i).retracts])).mpr hnames⟩

@[simp] theorem reportChange_port (g : Nat) (n : Generation) (s : State) (i : PortId) :
    (reportChange g n s).port i = (s.port i).takeChange g n s.ackTimeout := by cases i <;> rfl

@[simp] theorem writeGroup_port (g : Nat) (r : Group) (s : State) (i : PortId) : (writeGroup g r s).port i = s.port i := by
  cases i <;> simp [writeGroup]

theorem reportedWrite_group (g : Nat) (r : Group) (n : Generation) (s : State) (k : Nat) :
    (reportChange g n (writeGroup g r s)).group k = if k = g then r else s.group k := writeGroup_group g r s k

theorem reportedWrite_lists {s : State} (g : Nat) (r : Group) (n : Generation) (hs : RetractOrder s) (i : PortId) :
    RetractsOk ((reportChange g n (writeGroup g r s)).port i) := by
  rw [reportChange_port, writeGroup_port]
  exact retractsOk_takeChange _ _ _ (hs.lists i)

/-- A write and its report leave every other RETIRING group named. -/
theorem reportedWrite_named {s : State} {g k : Nat} (r : Group) (n : Generation) (hs : RetractOrder s)
    (hretiring : (s.group k).state = .retiring) : NamedBySome (reportChange g n (writeGroup g r s)) k := by
  obtain ⟨i, hnames⟩ := hs.named k hretiring
  refine ⟨i, ?_⟩
  rw [reportChange_port, writeGroup_port]
  exact names_takeChange _ _ _ hnames

theorem RetractOrder.written {s : State} {g : Nat} {r : Group} (n : Generation)
    (hr : r.state = .retiring → (s.group g).state = .retiring) (hs : RetractOrder s) :
    RetractOrder (reportChange g n (writeGroup g r s)) := by
  refine ⟨reportedWrite_lists g r n hs, writeGroup_wf g r hs.wf, fun k hk => reportedWrite_named r n hs ?_⟩
  rw [reportedWrite_group] at hk
  split at hk
  next heq => rw [heq]; exact hr hk
  next => exact hk

/-- Where one group alone may be RETIRING with no entry naming it, completing its retirement restores the invariant (R36). -/
theorem retractOrder_completeGroup {g : Nat} {s : State} (hlists : ∀ i, RetractsOk (s.port i))
    (hwf : SparseWf Group.reset s.table.groups) (hnamed : ∀ k, k ≠ g → (s.group k).state = .retiring → NamedBySome s k) :
    RetractOrder (completeGroup g s) := by
  rcases completeGroup_cases g s with ⟨-, -, heq⟩ | ⟨hkept, heq⟩ <;> rw [heq]
  · have hport (i : PortId) : ((s.setGroup g (s.group g).completed).raise flagRetired).port i = s.port i := by cases i <;> rfl
    refine ⟨fun i => hport i ▸ hlists i, s.setGroup_wf g _ hwf, fun k hk => ?_⟩
    have hgroup : ((s.setGroup g (s.group g).completed).raise flagRetired).group k =
        if k = g then (s.group g).completed else s.group k := s.group_setGroup ..
    rw [hgroup] at hk
    split at hk
    next => cases hk
    next hne =>
      obtain ⟨i, hnames⟩ := hnamed k hne hk
      exact ⟨i, by rw [hport]; exact hnames⟩
  · refine ⟨hlists, hwf, fun k hk => ?_⟩
    by_cases hkg : k = g
    · subst hkg
      exact (namedBySome_iff s k).mpr (hkept.resolve_left fun hn => hn hk)
    · exact hnamed k hkg hk

theorem RetractOrder.retired {s : State} (g : Nat) (r : Group) (n : Generation) (hs : RetractOrder s) :
    RetractOrder (completeGroup g (reportChange g n (writeGroup g r s))) := by
  refine retractOrder_completeGroup (reportedWrite_lists g r n hs) (writeGroup_wf g r hs.wf) fun k hne hk => ?_
  rw [reportedWrite_group, if_neg hne] at hk
  exact reportedWrite_named r n hs hk

/-- A change of one port's retract list that keeps it in order. -/
theorem retractsOk_setPort {s : State} {i : PortId} {p : Port} (hs : ∀ j, RetractsOk (s.port j)) (hp : RetractsOk p) (j : PortId) :
    RetractsOk ((s.setPort i p).port j) := by
  by_cases hj : i = j
  · subst hj; rw [State.port_setPort]; exact hp
  · rw [State.port_setPort_ne s p hj]; exact hs j

theorem namedBySome_setPort {s : State} {i : PortId} {p : Port} {k : Nat} (h : NamedBySome s k)
    (hp : names (s.port i) k → names p k) : NamedBySome (s.setPort i p) k := by
  obtain ⟨j, hnames⟩ := h
  refine ⟨j, ?_⟩
  by_cases hj : i = j
  · subst hj
    rw [State.port_setPort]
    exact hp hnames
  · rw [State.port_setPort_ne s p hj]; exact hnames

theorem RetractOrder.retractDone {s : State} (i : PortId) {e : RetractEntry}
    (hfind : (s.port i).retracts.find? (·.mark == .sent) = some e) (hs : RetractOrder s) :
    RetractOrder (completeGroup e.group (s.setPort i (retractDonePort s.ackTimeout (s.port i)))) := by
  obtain ⟨rest, hp, he⟩ := head_of_find_sent (hs.lists i) hfind
  refine retractOrder_completeGroup (retractsOk_setPort hs.lists (retractsOk_retractDone _ (hs.lists i) hp he)) (by simpa using hs.wf)
    fun k hne hk => ?_
  exact namedBySome_setPort (hs.named k (by simpa using hk)) (names_retractDone _ hp he hne)

theorem servedPort_retracts (e : ResolveEntry) (r : Group) (S : UplinkSet) (p : Port) : (servedPort e r S p).retracts = p.retracts := by
  unfold servedPort
  dsimp only
  split <;> rfl

theorem RetractOrder.copied {s : State} (i : PortId) (e : ResolveEntry) (hs : RetractOrder s) :
    RetractOrder (s.setPort i (servedPort e (s.group e.index.toNat) s.settled (s.port i))) := by
  have hretracts := servedPort_retracts e (s.group e.index.toNat) s.settled (s.port i)
  exact ⟨retractsOk_setPort hs.lists (retractsOk_congr hretracts (hs.lists i)), by simpa using hs.wf, fun k hk =>
    namedBySome_setPort (hs.named k (by simpa using hk)) (names_of_groups (by rw [hretracts])).mpr⟩

/-- A group that is RETIRING after a port reset is named by the other port's list (R127, R128). -/
theorem retractOrder_portReset {s : State} (i : PortId) (new : PortState) (hs : RetractOrder s) :
    RetractOrder (portReset i new s) := by
  have hother : (portReset i new s).port (other i) = s.port (other i) := portReset_port_ne new s (ne_other i)
  refine ⟨fun j => ?_, by rw [portReset_table]; exact resetCompleted_wf hs.wf, fun k hk => ⟨other i, ?_⟩⟩
  · by_cases hj : i = j
    · subst hj
      rw [portReset_port_eq]
      exact retractsOk_nil rfl
    · rw [portReset_port_ne new s hj]; exact hs.lists j
  · rw [portReset_group hs.wf] at hk
    rw [hother]
    split at hk
    next => cases hk
    next hkept => simpa [names, hk] using hkept

theorem DirectoryChange.keeps_retractOrder {s t : State} (h : DirectoryChange s t) : RetractOrder s → RetractOrder t := by
  induction h with
  | same hsame => exact .same hsame
  | written g r n hr => exact .written n hr
  | retired g r n => exact .retired g r n
  | copied i e => exact .copied i e
  | retractDone i hfind => exact .retractDone i hfind
  | portReset i new => exact retractOrder_portReset i new
  | emptied hgroups hports => exact fun _ => .of_empty (fun i => retractsOk_nil (hports i).2) hgroups
  | trans _ _ ih ih' => exact ih' ∘ ih

theorem SweepEnds.keeps_retractOrder {s t : State} (h : SweepEnds s t) (hs : RetractOrder s) : RetractOrder t :=
  .of_empty (fun i => h.port i ▸ hs.lists i) h.groups

/-- Settles O7: each change keeps the lists in order, and one that unnames a RETIRING group completes its retirement. -/
theorem retractEntriesStayInOrder : Obligations.RetractEntriesStayInOrder := by
  intro s t hs h
  rw [retractsInv_iff] at hs ⊢
  rcases step_directoryChange h with hmade | hended
  · exact hmade.keeps_retractOrder hs
  · exact hended.keeps_retractOrder hs

end Sys2Proof.Proofs
end

section
/-! PROOFS. The conditions on a port that its directory's keeping rests on: the answer order list with its unanswered count (R89, R94), and the
empty directory unless UP (R120). They keep each other, whatever the transmit order holds (O8). -/
namespace Sys2Proof.Proofs
open Sys2Proof.Machine Sys2Proof.Safety Sys2Proof.Claims

/-- The conditions of `DirectoryInv` on one port alone. -/
structure ListsOk (p : Port) : Prop where
  answers : AnswersOk p
  quiet : QuietUnlessUp p

/-! ### The answer order list -/

/-- What the conditions on the answer order list see of an entry: whether it takes an access, and whether it has its Answer. -/
def entryMarks (l : List ResolveEntry) : List (Bool × Bool) := l.map fun e => (e.needsAccess, e.answer.isSome)

/-- Two ports that differ neither in these marks nor in the count and the state. -/
theorem answersOk_congr {p q : Port} (hanswers : entryMarks q.answers = entryMarks p.answers) (hcount : q.unanswered = p.unanswered)
    (hstate : q.state = p.state) (h : AnswersOk p) : AnswersOk q := by
  have hiff (r : Port) : AnswersOk r ↔ (entryMarks r.answers).length ≤ Config.maxAnswers ∧
      r.unanswered = (entryMarks r.answers).countP (·.1) ∧ r.unanswered ≤ Config.maxUnanswered ∧ (r.state ≠ .up → r.unanswered = 0) ∧
      (∀ m ∈ entryMarks r.answers, m.1 = false → m.2 = true) ∧ (r.serves = false → entryMarks r.answers = []) := by
    simp [entryMarks, AnswersOk, List.countP_map, Function.comp_def]
  have hserves : q.serves = p.serves := by simp only [Port.serves, hstate]
  rw [hiff, hanswers, hcount, hstate, hserves]
  exact (hiff p).mp h

theorem entryMarks_joinAnswers (l : List ResolveEntry) : entryMarks (joinAnswers l).1 = entryMarks l := by
  induction l with
  | nil => rfl
  | cons e t ih =>
    unfold joinAnswers
    split
    · simpa [entryMarks] using ih
    · split
      · simpa [entryMarks] using ih
      · rfl

theorem answersOk_joinReady {p : Port} (h : AnswersOk p) : AnswersOk p.joinReady :=
  answersOk_congr (q := p.joinReady) (entryMarks_joinAnswers p.answers) rfl rfl h

/-- A port that serves has room for a Resolve that it takes (R94). -/
theorem answersOk_appendResolve {p : Port} (ready : Bool) (index : BitVec 16) (hserves : p.serves = true)
    (hroom : p.answers.length < Config.maxAnswers) (h : AnswersOk p) : AnswersOk (p.appendResolve ready index) := by
  obtain ⟨-, hcount, hmax, hup, hshort, -⟩ := h
  unfold Port.appendResolve
  generalize hs : arrivalStatus p ready index = status
  refine answersOk_joinReady ⟨by simpa using hroom, ?_, ?_, fun hn => ?_, fun e he hn => ?_,
    fun hn => absurd (hserves.symm.trans hn) (by decide)⟩
  · cases status <;> simp [hcount]
  · cases status with
    | none => exact (arrivalStatus_none hs).2
    | some st => exact hmax
  · cases status with
    | none => exact absurd (((serves_iff p).mp hserves).resolve_left (arrivalStatus_none hs).1) hn
    | some st => exact hup hn
  · rcases List.mem_append.mp he with he | he
    · exact hshort e he hn
    · cases List.mem_singleton.mp he
      cases status <;> simp_all

/-- An unserved entry stands only in the list of an UP port. -/
theorem up_of_unserved {p : Port} {e : ResolveEntry} (h : AnswersOk p) (he : e ∈ p.answers) (hunserved : e.unserved = true) :
    p.state = .up := by
  obtain ⟨hneeds, -⟩ : e.needsAccess = true ∧ _ := by simpa [ResolveEntry.unserved] using hunserved
  obtain ⟨-, hcount, -, hzero, -, -⟩ := h
  by_contra hn
  exact List.countP_eq_zero.mp (hcount.symm.trans (hzero hn)) e he hneeds

theorem answersOk_answerOldest {p : Port} (f : ResolveEntry → Answer) (h : AnswersOk p) :
    AnswersOk { p with answers := answerOldest f p.answers } := by
  obtain ⟨hlength, hcount, hmax, hup, hshort, hquiet⟩ := h
  have hneeds := map_needsAccess_answerOldest f p.answers
  have hsame : (answerOldest f p.answers).countP (·.needsAccess) = p.answers.countP (·.needsAccess) := by
    simpa [List.countP_map, Function.comp_def] using congrArg (List.countP id) hneeds
  refine ⟨?_, hcount.trans hsame.symm, hmax, hup, fun d hd hn => ?_, fun hn => ?_⟩
  · simpa using (congrArg List.length hneeds).trans_le (by simpa using hlength)
  · rcases mem_answerOldest hd with hd | ⟨c, -, -, rfl⟩
    · exact hshort d hd hn
    · rfl
  · rw [show p.answers = [] from hquiet hn]; rfl

theorem answersOk_served {p : Port} (e : ResolveEntry) (r : Group) (S : UplinkSet) (h : AnswersOk p) :
    AnswersOk (servedPort e r S p) := by
  have hanswered := answersOk_answerOldest (fun _ => accessAnswer e.index r S) h
  unfold servedPort
  dsimp only
  split
  · exact answersOk_joinReady (p := Port.recordCopy _ _ _) hanswered
  · exact answersOk_joinReady hanswered

/-- The entry at the head leaves, and the count with it (R95). -/
theorem answersOk_answerLeft {p : Port} (a : Answer) (rest : List LaneMessage) (h : AnswersOk p) : AnswersOk (p.answerLeft a rest) := by
  obtain ⟨hlength, hcount, hmax, hup, hshort, hquiet⟩ := h
  have hle : (p.answerLeft a rest).unanswered ≤ p.unanswered := by
    simp only [Port.answerLeft]; split <;> omega
  refine ⟨?_, ?_, hle.trans hmax, fun hn => Nat.le_zero.mp (hle.trans_eq (hup hn)),
    fun d hd hn => hshort d (List.mem_of_mem_tail hd) hn, fun hn => ?_⟩
  · simp only [Port.answerLeft, List.length_tail]; omega
  · simp only [Port.answerLeft, hcount]
    cases hp : p.answers with
    | nil => rfl
    | cons e t => cases hneeds : e.needsAccess <;> simp [hneeds]
  · simp only [Port.answerLeft, show p.answers = [] from hquiet hn, List.tail_nil]

/-! ### Each operation on a port -/

/-- A port that keeps its answer order list, its count and its state. -/
theorem ListsOk.congr {p q : Port} (h : ListsOk p) (hanswers : q.answers = p.answers) (hcount : q.unanswered = p.unanswered)
    (hstate : q.state = p.state) (hquiet : q.state ≠ .up → SameDirectory p q) : ListsOk q := by
  refine ⟨answersOk_congr (by rw [hanswers]) hcount hstate h.answers, fun hn => ?_⟩
  obtain ⟨hslots, hretracts⟩ := hquiet hn
  rw [hslots, hretracts]
  exact h.quiet (hstate ▸ hn)

theorem listsOk_takeReport {p : Port} (left live : UplinkSet) (timeout : Byte) (h : ListsOk p) :
    ListsOk (p.takeReport left live timeout) := by
  unfold Port.takeReport
  dsimp only
  split
  · split
    · rw [formVector_eq]; exact h.congr rfl rfl rfl fun _ => ⟨rfl, rfl⟩
    · exact h.congr rfl rfl rfl fun _ => ⟨rfl, rfl⟩
  · exact h.congr rfl rfl rfl fun _ => ⟨rfl, rfl⟩

/-- A DOWN port enters SYNC with its lists as they are, empty. -/
theorem listsOk_synced {p : Port} (live : UplinkSet) (timeout : Byte) (hdown : p.state = .down) (h : ListsOk p) :
    ListsOk (Port.formVector live timeout { p with state := .sync }) := by
  have hnot : p.state ≠ .up := by simp [hdown]
  obtain ⟨hlength, hcount, hmax, hup, hshort, -⟩ := h.answers
  rw [formVector_eq]
  exact ⟨⟨hlength, hcount, hmax, fun _ => hup hnot, hshort, fun hn => by cases hn⟩, fun _ => h.quiet hnot⟩

/-- A port that enters UP from SYNC is bound by less (R99). -/
theorem listsOk_acknowledge {p : Port} (v : DownVector) (live : UplinkSet) (timeout : Byte) (h : ListsOk p) :
    ListsOk (p.acknowledge v live timeout) := by
  unfold Port.acknowledge
  dsimp only
  split
  · rw [formVector_eq]; exact h.congr rfl rfl rfl fun _ => ⟨rfl, rfl⟩
  · split
    · obtain ⟨hlength, hcount, hmax, -, hshort, -⟩ := h.answers
      exact ⟨⟨hlength, hcount, hmax, fun hn => absurd rfl hn, hshort, fun hn => by cases hn⟩, fun hn => absurd rfl hn⟩
    · exact h.congr rfl rfl rfl fun _ => ⟨rfl, rfl⟩

theorem listsOk_served {p : Port} {e : ResolveEntry} (r : Group) (S : UplinkSet)
    (hfind : p.answers.find? ResolveEntry.unserved = some e) (h : ListsOk p) : ListsOk (servedPort e r S p) := by
  have hup := up_of_unserved h.answers (List.mem_of_find?_eq_some hfind) (List.find?_some hfind)
  have hstate : (servedPort e r S p).state = p.state := by
    unfold servedPort
    dsimp only
    split <;> rfl
  exact ⟨answersOk_served e r S h.answers, fun hn => absurd (hstate.trans hup) hn⟩

theorem listsOk_takeChange {p : Port} (g : Nat) (n : Generation) (timeout : Byte) (h : ListsOk p) : ListsOk (p.takeChange g n timeout) := by
  by_cases hup : p.state = .up
  · rcases takeChange_cases n timeout p g with ⟨-, -, heq⟩ | ⟨-, heq⟩ | ⟨-, -, heq⟩
    · rw [heq]; exact h
    all_goals
      obtain ⟨_, _, _, _, -, hsend⟩ := sendRetract_eq timeout { p with slots := slotsAfter g p, retracts := _ }
      rw [heq, hsend]
      exact h.congr rfl rfl rfl fun hn => absurd hup hn
  · obtain ⟨hslots, hretracts⟩ := h.quiet hup
    rw [takeChange_quiet g n timeout hslots hretracts]
    exact h

theorem listsOk_retractDone {p : Port} (timeout : Byte) (hup : p.state = .up) (h : ListsOk p) : ListsOk (retractDonePort timeout p) := by
  obtain ⟨_, _, _, _, -, hsend⟩ := sendRetract_eq timeout { p with retracts := p.retracts.eraseP (·.mark == .sent) }
  rw [retractDonePort, hsend]
  exact h.congr rfl rfl rfl fun hn => absurd hup hn

/-- Every operation on a port keeps them. -/
theorem PortMove.keeps_listsOk {p q : Port} (m : PortMove p q) (h : ListsOk p) : ListsOk q := by
  induction m with
  | refl => exact h
  | lock | counters | messageLeft => exact h.congr rfl rfl rfl fun _ => ⟨rfl, rfl⟩
  | reported left live timeout => exact listsOk_takeReport left live timeout h
  | synced live timeout hdown => exact listsOk_synced live timeout hdown h
  | reset new => exact ⟨(portOk_resetPort new _).answers, fun _ => ⟨rfl, rfl⟩⟩
  | acked v live timeout => exact listsOk_acknowledge v live timeout h
  | resolved ready index hserves hroom => exact ⟨answersOk_appendResolve ready index hserves hroom h.answers, h.quiet⟩
  | served r S hfind => exact listsOk_served r S hfind h
  | changed g n timeout => exact listsOk_takeChange g n timeout h
  | retractDone timeout hup => exact listsOk_retractDone timeout hup h
  | answerLeft => exact ⟨answersOk_answerLeft _ _ h.answers, h.quiet⟩
  | fullReset locked => exact ⟨(portOk_reset locked).answers, fun _ => ⟨rfl, rfl⟩⟩
  | trans _ _ ih ih' => exact ih' (ih h)

end Sys2Proof.Proofs
end

section
/-! PROOFS. Every step keeps each directory copy naming an ACTIVE group at its present generation (O8). -/
namespace Sys2Proof.Proofs
open Sys2Proof.Machine Sys2Proof.Safety Sys2Proof.Claims

/-! ### One directory (R114) -/

/-- `DirectoryOk` read by slot number. -/
theorem directoryOk_iff (s : State) (p : Port) : DirectoryOk s p ↔ SparseWf none p.slots ∧
    ∀ k c, sparseGet none p.slots k = some c →
      k = c.group % Config.slots ∧ (s.group c.group).state = .active ∧ (s.group c.group).gen = c.gen := by
  refine and_congr_right fun hwf => ⟨fun h k c hk => ?_, fun h e he c hc => h e.1 c ?_⟩
  · have hlisted := mem_of_sparseGet none p.slots k (by simp [hk])
    exact h _ hlisted c (by simp [hk])
  · rw [sparseGet_of_mem none p.slots hwf e he]
    exact hc

theorem directoryOk_of_slots {s : State} {p q : Port} (hslots : q.slots = p.slots) (h : DirectoryOk s p) : DirectoryOk s q := by
  rw [DirectoryOk, hslots]; exact h

theorem directoryOk_empty {s : State} {p : Port} (hslots : p.slots = []) : DirectoryOk s p :=
  directoryOk_of_slots (p := Port.reset) hslots (directoryOk_reset s)

/-- A directory follows the groups its copies name. -/
theorem directoryOk_of_groups {s t : State} {p : Port} (h : DirectoryOk s p)
    (hgroup : ∀ k c, sparseGet none p.slots k = some c → (s.group c.group).state = .active → t.group c.group = s.group c.group) :
    DirectoryOk t p := by
  rw [directoryOk_iff] at h ⊢
  refine ⟨h.1, fun k c hk => ?_⟩
  obtain ⟨hslot, hactive, hgen⟩ := h.2 k c hk
  rw [hgroup k c hk hactive]
  exact ⟨hslot, hactive, hgen⟩

/-- A change that leaves every ACTIVE group as it is leaves every directory in order. -/
theorem directoryOk_of_active {s t : State} {p : Port} (hgroup : ∀ g, (s.group g).state = .active → t.group g = s.group g)
    (h : DirectoryOk s p) : DirectoryOk t p := directoryOk_of_groups h fun _ c _ => hgroup c.group

/-- After a change of group g has reached a port, its directory is in order and no slot names g (R118). -/
theorem directoryOk_takeChange {s : State} {p : Port} (g : Nat) (n : Generation) (timeout : Byte) (h : DirectoryOk s p) :
    DirectoryOk s (p.takeChange g n timeout) ∧ ∀ k c, sparseGet none (p.takeChange g n timeout).slots k = some c → c.group ≠ g := by
  rw [directoryOk_iff] at h ⊢
  rw [takeChange_slots]
  have hkept (k : Nat) (c : Copy) (hk : sparseGet none (slotsAfter g p) k = some c) :
      ¬ (p.holdsCopy g = true ∧ k = g % Config.slots) ∧ sparseGet none p.slots k = some c := by
    rw [sparseGet_slotsAfter] at hk
    split at hk
    next => cases hk
    next hother => exact ⟨hother, hk⟩
  refine ⟨⟨slotsAfter_wf g h.1, fun k c hk => h.2 k c (hkept k c hk).2⟩, fun k c hk hg => ?_⟩
  obtain ⟨hother, hget⟩ := hkept k c hk
  obtain ⟨hslot, -⟩ := h.2 k c hget
  rw [hg] at hslot
  exact hother ⟨(holdsCopy_iff p g).mpr ⟨c, hslot ▸ hget, hg⟩, hslot⟩

/-- The copy of an ACTIVE group that a Resolve records (R115). -/
theorem directoryOk_recordCopy {s : State} {p : Port} {g : Nat} (hactive : (s.group g).state = .active) (h : DirectoryOk s p) :
    DirectoryOk s (p.recordCopy g (s.group g).gen) := by
  rw [directoryOk_iff] at h ⊢
  simp only [Port.recordCopy, sparseGet_sparseSet]
  refine ⟨sparseWf_sparseSet _ _ _ _ h.1, fun k c hk => ?_⟩
  split at hk
  next hslot =>
    cases hk
    exact ⟨hslot, hactive, rfl⟩
  next => exact h.2 k c hk

theorem directoryOk_served {s : State} {p : Port} (e : ResolveEntry) (S : UplinkSet) (h : DirectoryOk s p) :
    DirectoryOk s (servedPort e (s.group e.index.toNat) S p) := by
  unfold servedPort
  dsimp only
  split
  next hactive =>
    have hanswered : DirectoryOk s
        { p with answers := answerOldest (fun _ => accessAnswer e.index (s.group e.index.toNat) S) p.answers } := h
    exact directoryOk_of_slots rfl (directoryOk_recordCopy hactive hanswered)
  next => exact h

/-! ### Both directories and the records -/

/-- The conditions of `DirectoryInv` that tie the directories to the group records. -/
structure CopyOrder (s : State) : Prop where
  wf : SparseWf Group.reset s.table.groups
  copies : ∀ i, DirectoryOk s (s.port i)

theorem CopyOrder.same {s t : State} (h : SameCopies s t) (hs : CopyOrder s) : CopyOrder t := by
  refine ⟨h.groups ▸ hs.wf, fun i => directoryOk_of_slots (h.port i).slots ?_⟩
  exact directoryOk_of_active (fun g _ => by rw [State.group, h.groups]; rfl) (hs.copies i)

/-- The record of a group may take any value once no copy of it is left (R118, R119). -/
theorem CopyOrder.written {s : State} (g : Nat) (r : Group) (n : Generation) (hs : CopyOrder s) :
    CopyOrder (reportChange g n (writeGroup g r s)) := by
  refine ⟨writeGroup_wf g r hs.wf, fun i => ?_⟩
  rw [reportChange_port, writeGroup_port]
  obtain ⟨hok, hnone⟩ := directoryOk_takeChange g n (writeGroup g r s).ackTimeout (hs.copies i)
  refine directoryOk_of_groups hok fun k c hk _ => ?_
  rw [reportedWrite_group, if_neg (hnone k c hk)]

/-- A completed retirement is of a RETIRING group, of which there is no copy. -/
theorem CopyOrder.completeGroup {s : State} (g : Nat) (hs : CopyOrder s) : CopyOrder (completeGroup g s) := by
  have hconf : Confined .lp0 s (Machine.completeGroup g s) := (Confined.refl .lp0 s).completeGroup g
  refine ⟨?_, fun i => ?_⟩
  · rcases completeGroup_cases g s with ⟨-, -, heq⟩ | ⟨-, heq⟩ <;> rw [heq]
    · exact s.setGroup_wf g _ hs.wf
    · exact hs.wf
  · have hport : (Machine.completeGroup g s).port i = s.port i := by cases i <;> simp
    rw [hport]
    exact directoryOk_of_active hconf.group (hs.copies i)

/-- A change of one port that keeps its directory in order. -/
theorem CopyOrder.setPort {s : State} {i : PortId} {p : Port} (hp : DirectoryOk s p) (hs : CopyOrder s) : CopyOrder (s.setPort i p) := by
  refine ⟨by simpa using hs.wf, fun j => directoryOk_of_active (s := s) (fun g _ => by simp) ?_⟩
  by_cases hj : i = j
  · subst hj; rw [State.port_setPort]; exact hp
  · rw [State.port_setPort_ne s p hj]; exact hs.copies j

theorem retractDonePort_slots (timeout : Byte) (p : Port) : (retractDonePort timeout p).slots = p.slots := by
  obtain ⟨_, _, _, _, -, hsend⟩ := sendRetract_eq timeout { p with retracts := p.retracts.eraseP (·.mark == .sent) }
  rw [retractDonePort, hsend]
  rfl

theorem copyOrder_portReset {s : State} (i : PortId) (new : PortState) (hs : CopyOrder s) : CopyOrder (portReset i new s) := by
  refine ⟨by rw [portReset_table]; exact resetCompleted_wf hs.wf, fun j => ?_⟩
  by_cases hj : i = j
  · subst hj
    rw [portReset_port_eq]
    exact directoryOk_empty rfl
  · rw [portReset_port_ne new s hj]
    exact directoryOk_of_active (confined_portReset i new s).group (hs.copies j)

theorem DirectoryChange.keeps_copyOrder {s t : State} (h : DirectoryChange s t) : CopyOrder s → CopyOrder t := by
  induction h with
  | same hsame => exact .same hsame
  | written g r n => exact .written g r n
  | retired g r n => exact fun hs => (hs.written g r n).completeGroup g
  | copied i e => exact fun hs => hs.setPort (directoryOk_served e _ (hs.copies i))
  | retractDone i => exact fun hs => (hs.setPort (directoryOk_of_slots (retractDonePort_slots ..) (hs.copies i))).completeGroup _
  | portReset i new => exact copyOrder_portReset i new
  | emptied hgroups hports => exact fun _ => ⟨by rw [hgroups]; exact sparseWf_nil _, fun i => directoryOk_empty (hports i).1⟩
  | trans _ _ ih ih' => exact ih' ∘ ih

/-- The end of the init sweep finds the table empty already (log 8). -/
theorem SweepEnds.sameCopies {s t : State} (h : SweepEnds s t) (hs : InitEmpty s) : SameCopies s t := by
  have hempty : s.table.groups = [] := by rw [(hs h.init).1]; rfl
  exact ⟨h.groups.trans hempty.symm, fun i => h.port i ▸ .refl _⟩

/-! ### Every step -/

theorem initEmpty_of_cleared {t : State} (h : TableCleared t) : InitEmpty t := fun _ => ⟨h.table, h.walk⟩

theorem RecordChange.keeps_initEmpty {s t : State} (h : RecordChange s t) (hs : InitEmpty s) : InitEmpty t := by
  cases h with
  | written hwrite => exact initEmpty_writeGroup hwrite hs
  | retiredAtOnce hready hactive hsame =>
    have hretired := initEmpty_writeGroup (.retired _ hready hactive) hs
    exact initEmpty_writeGroup (completed_of_retired hsame) (WalkChange.keeps_initEmpty (.quiet hsame) hretired)
  | completed => exact initEmpty_completeAll hs

theorem initEmpty_kept : KeptByEveryStep InitEmpty := by
  refine keptByEveryStep_of_tableChanges (fun _ _ hs => hs) (fun s t h hs => ?_) fun c s t h hs => ?_
  · cases h with
    | kept hkept => exact hkept.keeps_initEmpty hs
    | wrote hbefore hwrite hafter => exact hafter.keeps_initEmpty (hwrite.keeps_initEmpty (hbefore.keeps_initEmpty hs))
  · cases h with
    | porstFell hcleared => exact initEmpty_of_cleared hcleared
    | resetServed _ _ hcleared => exact initEmpty_of_cleared hcleared
    | sweepEnded => exact initEmpty_of_ready rfl

/-- A step moves each port by its operations. -/
theorem step_portsMove {s t : State} (h : step s = .next t) (hheld : HeldInReset s) : PortsMove s t := by
  rcases step_cases h with rfl | ⟨c, rest, hexec⟩
  · exact .refl t
  · have hheld' : HeldInReset { s with pending := rest } := fun hp => congrArg (fun r : State => { r with pending := rest }) (hheld hp)
    exact (exec_portsMove c hexec hheld').after_ports rfl rfl

/-- `DirectoryInv` with its conditions read by port. -/
theorem directoryInv_iff (s : State) :
    DirectoryInv s ↔ HeldInReset s ∧ InitEmpty s ∧ (∀ i, ListsOk (s.port i)) ∧ CopyOrder s := by
  constructor
  · rintro ⟨hheld, hinit, hwf, hanswers, hquiet, h0, h1⟩
    refine ⟨hheld, hinit, fun i => ?_, hwf, fun i => ?_⟩
    · cases i
      · exact ⟨hanswers.1, hquiet.1⟩
      · exact ⟨hanswers.2, hquiet.2⟩
    · cases i
      · exact h0
      · exact h1
  · rintro ⟨hheld, hinit, hlists, hwf, hcopies⟩
    exact ⟨hheld, hinit, hwf, ⟨(hlists .lp0).answers, (hlists .lp1).answers⟩, ⟨(hlists .lp0).quiet, (hlists .lp1).quiet⟩,
      hcopies .lp0, hcopies .lp1⟩

/-- Settles O8: a record is written only with its copies emptied, and a copy recorded only of an ACTIVE group. -/
theorem copiesNameCurrentGenerations : Obligations.CopiesNameCurrentGenerations := by
  intro s t hs h
  rw [directoryInv_iff] at hs ⊢
  obtain ⟨hheld, hinit, hlists, hcopies⟩ := hs
  refine ⟨heldInReset_kept s t hheld h, initEmpty_kept s t hinit h,
    fun i => ((step_portsMove h hheld).port i).keeps_listsOk (hlists i), ?_⟩
  rcases step_directoryChange h with hmade | hended
  · exact hmade.keeps_copyOrder hcopies
  · exact hcopies.same (hended.sameCopies hinit)

end Sys2Proof.Proofs
end

section
/-! PROOFS. What a change outside the requests does to the Management Interface: it leaves what `MgmtInv` speaks of and what a waiting
Barrier waits for, or evaluates the Barrier's test at its end (R152, log 10). -/
namespace Sys2Proof.Proofs
open Sys2Proof.Machine Sys2Proof.Safety Sys2Proof.Claims

/-! ### The changes -/

/-- Two states that agree in MRST_N and in the part of the Management Interface that the pin, an owed reset and a Barrier speak of. -/
structure SameHold (s t : State) : Prop where
  mrst : t.mrst = s.mrst
  iface : t.mgmt.iface = s.mgmt.iface
  resetOwed : t.mgmt.resetOwed = s.mgmt.resetOwed
  dropped : t.mgmt.dropped = s.mgmt.dropped
  enables : t.mgmt.enables = s.mgmt.enables
  barrierTimer : t.mgmt.barrierTimer = s.mgmt.barrierTimer

/-- What a Barrier of the first state may wait for is still there in the second (R152). -/
structure StillOwes (s t : State) : Prop where
  job : ∀ u, jobFor s u → jobFor t u
  sweep : sweepBusy s → sweepBusy t
  retracts : ∀ i, (t.port i).retracts = [] → (s.port i).retracts = []

/-- Changes that leave the interface, but that a waiting Barrier may be answered OK. -/
inductive HoldChange : State → State → Prop where
  | same {s t : State} : SameHold s t → HoldChange s t
  | checked {s : State} : HoldChange s (barrierCheck s)
  | trans {s m t : State} : HoldChange s m → HoldChange m t → HoldChange s t

/-- Changes that leave a waiting Barrier what it waits for, or end with its check. -/
inductive WaitChange : State → State → Prop where
  | kept {s t : State} : SameHold s t → StillOwes s t → WaitChange s t
  | checked {s m : State} : HoldChange s m → WaitChange s (barrierCheck m)
  | trans {s m t : State} : WaitChange s m → WaitChange m t → WaitChange s t

/-- Every use of this meaning is such a change. -/
def KeepsWaiting (f : State → State) : Prop := ∀ s, WaitChange s (f s)

/-! ### What the changes keep -/

/-- `MgmtInv` but for the test of the waiting Barrier. -/
structure MgmtSteady (s : State) : Prop where
  held : MgmtHeld s
  owed : OwedOk s
  timer : s.mgmt.barrierTimer = .stopped ↔ ∀ b, s.mgmt.iface ≠ .serving (.barrier b)

theorem barrierOk_iff (s : State) : BarrierOk s ↔
    (s.mgmt.barrierTimer = .stopped ↔ ∀ b, s.mgmt.iface ≠ .serving (.barrier b)) ∧
      ∀ b, s.mgmt.iface = .serving (.barrier b) → barrierHolds b s = false := by
  unfold BarrierOk
  split
  next b hb => simp [hb]
  next hb =>
    have hnone : ∀ b, s.mgmt.iface ≠ .serving (.barrier b) := hb
    simp [hnone]

theorem mgmtInv_iff (s : State) : MgmtInv s ↔
    MgmtSteady s ∧ ∀ b, s.mgmt.iface = .serving (.barrier b) → barrierHolds b s = false := by
  rw [MgmtInv, barrierOk_iff]
  exact ⟨fun ⟨hheld, howed, htimer, htest⟩ => ⟨⟨hheld, howed, htimer⟩, htest⟩,
    fun ⟨⟨hheld, howed, htimer⟩, htest⟩ => ⟨hheld, howed, htimer, htest⟩⟩

theorem MgmtSteady.congr {s t : State} (h : SameHold s t) (hs : MgmtSteady s) : MgmtSteady t := by
  obtain ⟨hmrst, hiface, howed, hdropped, henables, htimer⟩ := h
  refine ⟨?_, ?_, ?_⟩
  · simpa only [MgmtHeld, hmrst, hiface, howed, hdropped, henables, htimer] using hs.held
  · simpa only [OwedOk, State.rdy, hiface, howed] using hs.owed
  · simpa only [hiface, htimer] using hs.timer

/-- A reply formed with the Barrier's timer stopped, MRST_N high. -/
theorem mgmtSteady_formReply {s : State} (hmrst : s.mrst = false) (htimer : s.mgmt.barrierTimer = .stopped) (status : ReplyStatus)
    (payload : List Byte) : MgmtSteady (formReply status payload s) :=
  ⟨fun hlow => absurd (hmrst.symm.trans hlow) (by decide), fun _ => rfl, iff_of_true htimer fun _ => by simp⟩

theorem mgmtInv_formReply {s : State} (hmrst : s.mrst = false) (htimer : s.mgmt.barrierTimer = .stopped) (status : ReplyStatus)
    (payload : List Byte) : MgmtInv (formReply status payload s) :=
  (mgmtInv_iff _).mpr ⟨mgmtSteady_formReply hmrst htimer .., fun b hb => by simp at hb⟩

/-- A request is in progress only while MRST_N is high, and then no reset is owed. -/
theorem MgmtSteady.of_serving {s : State} {r : Request} (hs : MgmtSteady s) (h : s.mgmt.iface = .serving r) :
    s.mrst = false ∧ s.mgmt.resetOwed = false := by
  constructor
  · refine Bool.eq_false_iff.mpr fun hlow => ?_
    have hidle := (hs.held hlow).1
    rw [h] at hidle
    cases hidle
  · refine Bool.eq_false_iff.mpr fun howed => ?_
    have hrdy := hs.owed howed
    simp [State.rdy, h] at hrdy

/-- A check leaves a Barrier waiting only with its test failing. -/
theorem mgmtInv_barrierCheck {s : State} (hs : MgmtSteady s) : MgmtInv (barrierCheck s) := by
  rcases barrierCheck_cases s with ⟨b, hb, -, h⟩ | ⟨htest, h⟩ <;> rw [h]
  · exact mgmtInv_formReply (s := { s with mgmt := { s.mgmt with barrierTimer := .stopped } }) (hs.of_serving hb).1 rfl ..
  · exact (mgmtInv_iff s).mpr ⟨hs, htest⟩

theorem HoldChange.keeps_steady {s t : State} (h : HoldChange s t) : MgmtSteady s → MgmtSteady t := by
  induction h with
  | same hsame => exact .congr hsame
  | checked => exact fun hs => ((mgmtInv_iff _).mp (mgmtInv_barrierCheck hs)).1
  | trans _ _ ih ih' => exact ih' ∘ ih

/-- A test that fails still fails when what it waits for is still there. -/
theorem StillOwes.barrierHolds {s t : State} {b : BarrierTest} (h : StillOwes s t) (hfails : barrierHolds b s = false) :
    barrierHolds b t = false := by
  refine Bool.eq_false_iff.mpr fun hholds => Bool.eq_false_iff.mp hfails ?_
  rw [barrierHolds_iff] at hholds ⊢
  obtain ⟨huplinks, hsweeps, hretracts⟩ := hholds
  exact ⟨fun u hu hjob => huplinks u hu (h.job u hjob), fun hb hsweep => hsweeps hb (h.sweep hsweep),
    fun hb => ⟨h.retracts .lp0 (hretracts hb).1, h.retracts .lp1 (hretracts hb).2⟩⟩

theorem WaitChange.hold {s t : State} (h : WaitChange s t) : HoldChange s t := by
  induction h with
  | kept hsame _ => exact .same hsame
  | checked hhold => exact hhold.trans .checked
  | trans _ _ ih ih' => exact ih.trans ih'

theorem WaitChange.keeps_mgmtInv {s t : State} (h : WaitChange s t) : MgmtInv s → MgmtInv t := by
  induction h with
  | kept hsame howes =>
    intro hs
    obtain ⟨hsteady, htest⟩ := (mgmtInv_iff _).mp hs
    exact (mgmtInv_iff _).mpr ⟨hsteady.congr hsame, fun b hb => howes.barrierHolds (htest b (hsame.iface ▸ hb))⟩
  | checked hhold => exact fun hs => mgmtInv_barrierCheck (hhold.keeps_steady ((mgmtInv_iff _).mp hs).1)
  | trans _ _ ih ih' => exact ih' ∘ ih

/-! ### Changes that leave the interface -/

theorem SameHold.refl (s : State) : SameHold s s := ⟨rfl, rfl, rfl, rfl, rfl, rfl⟩

theorem SameHold.of_mgmt {s t : State} (hmrst : t.mrst = s.mrst) (hmgmt : t.mgmt = s.mgmt) : SameHold s t := by
  constructor <;> simp only [hmrst, hmgmt]

theorem SameHold.raiseIf (s : State) (c : Bool) (f : Byte) : SameHold s (s.raiseIf c f) := by constructor <;> simp

theorem SameHold.trans {s m t : State} (h : SameHold s m) (h' : SameHold m t) : SameHold s t :=
  ⟨h'.mrst.trans h.mrst, h'.iface.trans h.iface, h'.resetOwed.trans h.resetOwed, h'.dropped.trans h.dropped,
    h'.enables.trans h.enables, h'.barrierTimer.trans h.barrierTimer⟩

theorem SameHold.completeGroup (g : Nat) (s : State) : SameHold s (completeGroup g s) := by
  rcases completeGroup_cases g s with ⟨-, -, h⟩ | ⟨-, h⟩ <;> rw [h]
  · exact ⟨rfl, rfl, rfl, rfl, rfl, rfl⟩
  · exact .refl s

theorem SameHold.completeAll (s : State) : SameHold s (completeAll s) := by
  rw [Machine.completeAll]
  refine .trans ?_ (.raiseIf ..)
  exact .of_mgmt rfl rfl

theorem SameHold.setPort (i : PortId) (p : Port) (s : State) : SameHold s (s.setPort i p) := .of_mgmt (by simp) (by simp)

/-- A change that leaves the Walk Engine's work, and the retract lists but that they may grow. -/
theorem StillOwes.of_walk {s t : State} (hwalk : t.walk = s.walk)
    (hretracts : ∀ i, (t.port i).retracts = [] → (s.port i).retracts = []) : StillOwes s t := by
  refine ⟨fun u => ?_, ?_, hretracts⟩
  · simp only [jobFor, hwalk]; exact id
  · simp only [sweepBusy, hwalk]; exact id

namespace WaitChange
variable {s m t : State}

/-- A change outside the interface, the Walk Engine and the retract lists. -/
theorem of_hold (h : SameHold s t) (hwalk : t.walk = s.walk) (h0 : t.lp0 = s.lp0) (h1 : t.lp1 = s.lp1) : WaitChange s t := by
  refine .kept h (.of_walk hwalk fun i => ?_)
  cases i
  · simp only [State.port_lp0, h0]; exact id
  · simp only [State.port_lp1, h1]; exact id

theorem outside (hmrst : t.mrst = s.mrst) (hmgmt : t.mgmt = s.mgmt) (hwalk : t.walk = s.walk) (h0 : t.lp0 = s.lp0)
    (h1 : t.lp1 = s.lp1) : WaitChange s t := .of_hold (.of_mgmt hmrst hmgmt) hwalk h0 h1

theorem refl (s : State) : WaitChange s s := .outside rfl rfl rfl rfl rfl

theorem raise (s : State) (f : Byte) : WaitChange s (s.raise f) := .of_hold ⟨rfl, rfl, rfl, rfl, rfl, rfl⟩ rfl rfl rfl

theorem raiseIf (s : State) (c : Bool) (f : Byte) : WaitChange s (s.raiseIf c f) :=
  .of_hold (.raiseIf s c f) (by simp) (by simp) (by simp)

/-- A port whose retract list does not run empty. -/
theorem setPort {i : PortId} {p : Port} (h : p.retracts = [] → (s.port i).retracts = []) : WaitChange s (s.setPort i p) := by
  refine .kept (.setPort i p s) (.of_walk (by simp) fun j => ?_)
  by_cases hj : i = j
  · subst hj; simpa using h
  · rw [State.port_setPort_ne s p hj]; exact id

/-- The engine's work grows or stays. -/
theorem setWalk {w : Walk} (hjob : ∀ u, jobFor s u → jobFor { s with walk := w } u)
    (hsweep : sweepBusy s → sweepBusy { s with walk := w }) : WaitChange s { s with walk := w } :=
  .kept (.of_mgmt rfl rfl) ⟨hjob, hsweep, fun i => by cases i <;> exact id⟩

end WaitChange

/-! ### The Walk Engine and the settled set -/

/-- The engine takes a job, whatever it had before: the Barrier's test is evaluated. -/
theorem waitChange_takeNextJob {s m : State} (h : SameHold s m) : WaitChange s (takeNextJob m) := by
  rw [takeNextJob]
  refine .checked (.same (h.trans (.trans ?_ (.raiseIf ..))))
  exact .of_mgmt rfl rfl

theorem keepsWaiting_endJob : KeepsWaiting endJob := fun _ => waitChange_takeNextJob (.of_mgmt rfl rfl)

theorem keepsWaiting_startIfIdle : KeepsWaiting startIfIdle := by
  intro s
  rcases startIfIdle_cases s with ⟨-, -, h⟩ | ⟨-, h⟩ <;> rw [h]
  · exact waitChange_takeNextJob (.refl s)
  · exact .refl s

/-- Jobs appended to the queue take none away. -/
theorem waitChange_queued (s : State) (S : UplinkSet) (more : List WaitingJob) :
    WaitChange s { s with settled := S, walk := { s.walk with queue := s.walk.queue ++ more } } := by
  refine .trans (.setWalk (fun u => ?_) ?_) (.outside rfl rfl rfl rfl rfl)
  · exact Or.imp_left (List.mem_append_left _)
  · exact Or.imp_left fun ⟨f, c, h⟩ => ⟨f, c, List.mem_append_left _ h⟩

theorem keepsWaiting_resettle : KeepsWaiting resettle := fun s => (waitChange_queued s _ _).trans (keepsWaiting_startIfIdle _)

/-- A report of the live set leaves both retract lists (R98, R100). -/
theorem keepsWaiting_reportLive (live : UplinkSet) : KeepsWaiting (reportLive live) := by
  intro s
  unfold reportLive
  split
  · exact .refl s
  · refine .trans (.kept ?_ (.of_walk ?_ fun i => ?_)) (keepsWaiting_resettle _)
    · exact .of_mgmt rfl rfl
    · rfl
    · cases i
      · exact ((sameDirectory_takeReport ..).retracts ▸ ·)
      · exact ((sameDirectory_takeReport ..).retracts ▸ ·)

theorem keepsWaiting_watchStep (us : Vector Uplink 32) : KeepsWaiting (watchStep us) := by
  intro s
  refine .trans (.trans (m := { s with uplinks := us }) ?_ (.raiseIf ..)) (keepsWaiting_reportLive _ _)
  exact .outside rfl rfl rfl rfl rfl

theorem keepsWaiting_stepUplink (u : Fin 32) (f : Uplink → Uplink) : KeepsWaiting (stepUplink u f) := fun s => keepsWaiting_watchStep _ s

theorem keepsWaiting_stepUplinks (us : UplinkSet) (f : Fin 32 → Uplink → Uplink) : KeepsWaiting (stepUplinks us f) :=
  fun s => keepsWaiting_watchStep _ s

/-- A change of the scan receiver, flagged or not. -/
theorem waitChange_scan (s : State) (c : Scan) (flag : Bool) (f : Byte) : WaitChange s (State.raiseIf { s with scan := c } flag f) := by
  refine .trans ?_ (.raiseIf ..)
  exact .outside rfl rfl rfl rfl rfl

theorem keepsWaiting_enableScan (period : BitVec 16) : KeepsWaiting (enableScan period) := by
  intro s
  unfold enableScan
  split
  · exact .trans (waitChange_scan s _ false 0#8) (keepsWaiting_stepUplinks _ _ _)
  · exact waitChange_scan s _ false 0#8

theorem keepsWaiting_disableScan (period : BitVec 16) : KeepsWaiting (disableScan period) := by
  intro s
  unfold disableScan
  split
  · exact waitChange_scan s _ false 0#8
  · exact .trans (waitChange_scan s _ _ _) (keepsWaiting_stepUplinks _ _ _)

/-! ### Reported changes and visits -/

theorem retracts_eq_nil_iff (p : Port) : p.retracts = [] ↔ ∀ g, ¬ names p g := by
  rw [List.eq_nil_iff_forall_not_mem]
  exact ⟨fun h g ⟨e, he, _⟩ => h e he, fun h e he => h e.group ⟨e, he, rfl⟩⟩

/-- A reported change takes no entry off a retract list (R118). -/
theorem takeChange_owes {g : Nat} {n : Generation} {timeout : Byte} {p : Port} (h : (p.takeChange g n timeout).retracts = []) :
    p.retracts = [] := by
  rw [retracts_eq_nil_iff] at h ⊢
  exact fun k hk => h k (names_takeChange g n timeout hk)

theorem keepsWaiting_reportChange (g : Nat) (n : Generation) : KeepsWaiting (reportChange g n) := fun s =>
  .kept (.of_mgmt rfl rfl) (.of_walk rfl fun i => by rw [reportChange_port]; exact takeChange_owes)

theorem keepsWaiting_persist (g : Nat) (map : BucketMap) : KeepsWaiting (persist g map) := by
  intro s
  rcases persist_cases g map s with ⟨-, h⟩ | ⟨-, h⟩ <;> rw [h]
  · exact .refl s
  · refine .trans ?_ (keepsWaiting_reportChange ..)
    exact .outside rfl rfl rfl rfl rfl

theorem keepsWaiting_countVisit : KeepsWaiting countVisit := fun _ => .of_hold ⟨rfl, rfl, rfl, rfl, rfl, rfl⟩ rfl rfl rfl

/-- A visit advances the cursor of the job in progress, or ends the job. -/
theorem waitChange_uplinkVisit {u : Fin 32} {g : Nat} {s : State} (hjob : s.walk.job = some (.uplink u (some g))) :
    WaitChange s (uplinkVisit u g s) := by
  have hvisit : WaitChange s (countVisit (persist g ((s.group g).effectiveMap s.settled) s)) :=
    (keepsWaiting_persist ..).trans (keepsWaiting_countVisit _)
  cases hnext : successor g s.table.chains[u] with
  | some h =>
    rw [uplinkVisit_advances hnext]
    refine hvisit.trans ?_
    have hwalk : (countVisit (persist g ((s.group g).effectiveMap s.settled) s)).walk = s.walk := by simp
    generalize countVisit _ = m at hwalk ⊢
    rw [← hwalk] at hjob ⊢
    refine .setWalk (fun v => Or.imp_right ?_) (Or.imp_right ?_)
    · rintro ⟨c, hc⟩
      obtain ⟨rfl, -⟩ : u = v ∧ _ := by simpa using hjob.symm.trans hc
      exact ⟨some h, rfl⟩
    · rintro ⟨f, c, n, hc⟩
      cases hjob.symm.trans hc
  | none =>
    rw [uplinkVisit_ends hnext]
    refine hvisit.trans (waitChange_takeNextJob ?_)
    exact .of_mgmt rfl rfl

theorem keepsWaiting_sweepWrite (g : Nat) : KeepsWaiting (sweepWrite g) := by
  intro s
  unfold sweepWrite
  split
  · exact keepsWaiting_persist _ _ s
  · exact .refl s

theorem waitChange_sweepJobVisit {first count next : Nat} {s : State} (hjob : s.walk.job = some (.sweep first count next)) :
    WaitChange s (sweepJobVisit first count next s) := by
  have hvisit : WaitChange s (countVisit (sweepWrite next s)) := (keepsWaiting_sweepWrite ..).trans (keepsWaiting_countVisit _)
  have hwalk : (countVisit (sweepWrite next s)).walk = s.walk := by simp
  have heq : sweepJobVisit first count next s = if first + count ≤ next + 1
      then endJob ((countVisit (sweepWrite next s)).raise flagSweepDone)
      else { countVisit (sweepWrite next s) with
        walk := { (countVisit (sweepWrite next s)).walk with job := some (.sweep first count (next + 1)) } } := rfl
  rw [heq]
  generalize countVisit (sweepWrite next s) = m at hvisit hwalk ⊢
  rw [← hwalk] at hjob
  split
  · exact hvisit.trans (.trans (.raise ..) (keepsWaiting_endJob _))
  · refine hvisit.trans (.setWalk (fun v => Or.imp_right ?_) (Or.imp_right fun _ => ⟨first, count, next + 1, rfl⟩))
    rintro ⟨c, hc⟩
    cases hjob.symm.trans hc

/-! ### The ports -/

/-- A port reset empties a retract list and evaluates the test (R91, R128). -/
theorem keepsWaiting_portReset (i : PortId) (new : PortState) : KeepsWaiting (portReset i new) := by
  intro s
  have hcompleted : SameHold s ((completeAll (s.setPort i (resetPort new (s.port i)))).raise flagPort) :=
    .trans (.trans (.setPort ..) (.completeAll _)) ⟨rfl, rfl, rfl, rfl, rfl, rfl⟩
  have hreset : HoldChange s (resetCompleted i new s) := .same (hcompleted.trans (.raiseIf ..))
  rw [portReset_eq]
  split
  · exact .checked (hreset.trans (keepsWaiting_resettle _).hold)
  · exact .checked hreset

theorem keepsWaiting_protocolError (i : PortId) : KeepsWaiting (protocolError i) := by
  intro s
  unfold protocolError
  split
  · exact keepsWaiting_portReset i .fault s
  · exact .refl s

theorem waitChange_lock (i : PortId) (b : Bool) (s : State) : WaitChange s (s.setPort i { s.port i with locked := b }) := .setPort id

theorem keepsWaiting_enterSync (i : PortId) : KeepsWaiting (enterSync i) := by
  intro s
  refine .trans (.setPort fun h => ?_) (.raise ..)
  exact (sameDirectory_formVector s.live s.ackTimeout { s.port i with state := .sync }).retracts.symm.trans h

theorem keepsWaiting_takeHeldLocks : KeepsWaiting takeHeldLocks := by
  have hlock (i : PortId) : KeepsWaiting fun s => if (s.port i).locked then enterSync i s else s := fun s => by
    dsimp only
    split
    · exact keepsWaiting_enterSync i s
    · exact .refl s
  exact fun s => .trans (hlock .lp0 s) (hlock .lp1 _)

theorem keepsWaiting_serveResolve (i : PortId) : KeepsWaiting (serveResolve i) := by
  intro s
  cases hfind : (s.port i).answers.find? ResolveEntry.unserved with
  | none => simp only [serveResolve, hfind]; exact .refl s
  | some e =>
    rw [serveResolve_eq hfind]
    exact .setPort ((servedPort_retracts ..).symm.trans ·)

theorem waitChange_ackTaken (i : PortId) (v : DownVector) (s : State) : WaitChange s (ackTaken i v s) := by
  have hport (c : Bool) : WaitChange s ((s.setPort i ((s.port i).acknowledge v s.live s.ackTimeout)).raiseIf c flagPort) :=
    .trans (.setPort ((sameDirectory_acknowledge ..).retracts.symm.trans ·)) (.raiseIf ..)
  unfold ackTaken
  dsimp only
  split
  · exact (hport _).trans (keepsWaiting_resettle _)
  · exact hport _

/-- A Retract Done takes an entry off its list and evaluates the test (R124, R152). -/
theorem keepsWaiting_takeRetractDone (i : PortId) (e : RetractEntry) : KeepsWaiting (takeRetractDone i e) := fun _ =>
  .checked (.same (.trans (.setPort ..) (.completeGroup ..)))

end Sys2Proof.Proofs
end

section
/-! PROOFS. Every step keeps the Management Interface in order: what MRST_N holds, an owed reset, a waiting Barrier (R143, R152, R154; O12). -/
namespace Sys2Proof.Proofs
open Sys2Proof.Machine Sys2Proof.Safety Sys2Proof.Claims

/-! ### A request that the interface takes -/

/-- The interface may form a reply: MRST_N is high, no reset is owed, and the Barrier's timer is stopped. -/
structure MayReply (s : State) : Prop where
  mrst : s.mrst = false
  resetOwed : s.mgmt.resetOwed = false
  timer : s.mgmt.barrierTimer = .stopped

theorem HoldChange.mayReply {s t : State} (h : HoldChange s t) : MayReply s → MayReply t := by
  induction h with
  | same hsame => exact fun hs => ⟨hsame.mrst.trans hs.mrst, hsame.resetOwed.trans hs.resetOwed, hsame.barrierTimer.trans hs.timer⟩
  | @checked s =>
    intro hs
    rcases barrierCheck_cases s with ⟨b, -, -, h⟩ | ⟨-, h⟩ <;> rw [h]
    · exact ⟨hs.mrst, hs.resetOwed, rfl⟩
    · exact hs
  | trans _ _ ih ih' => exact ih' ∘ ih

theorem MgmtSteady.mayReply_idle {s : State} (hs : MgmtSteady s) (hmrst : s.mrst = false) (hidle : s.mgmt.iface = .idle) :
    MayReply s := by
  refine ⟨hmrst, Bool.eq_false_iff.mpr fun howed => ?_, hs.timer.mpr fun b hb => by rw [hidle] at hb; cases hb⟩
  have hrdy := hs.owed howed
  simp [State.rdy, hidle] at hrdy

/-- A group request or a survey is in progress. -/
theorem MgmtSteady.mayReply_serving {s : State} {r : Request} (hs : MgmtSteady s) (h : s.mgmt.iface = .serving r)
    (hr : ∀ b, r ≠ .barrier b) : MayReply s := by
  obtain ⟨hmrst, howed⟩ := hs.of_serving h
  refine ⟨hmrst, howed, hs.timer.mpr fun b hb => hr b ?_⟩
  rw [h] at hb
  cases hb
  rfl

/-- Every use of this meaning by an interface that may reply leaves the interface in order. -/
def Replies (f : State → State) : Prop := ∀ s, MayReply s → MgmtInv (f s)

theorem MayReply.formReply {s : State} (h : MayReply s) (status : ReplyStatus) (payload : List Byte) :
    MgmtInv (formReply status payload s) := mgmtInv_formReply h.mrst h.timer ..

/-- The same behind a change of an owed reset, the flags, the enables or of what is outside the interface. -/
theorem MayReply.formReply_of {s t : State} (h : MayReply s) (hmrst : t.mrst = s.mrst)
    (htimer : t.mgmt.barrierTimer = s.mgmt.barrierTimer) (status : ReplyStatus) (payload : List Byte) :
    MgmtInv (Machine.formReply status payload t) := mgmtInv_formReply (hmrst.trans h.mrst) (htimer.trans h.timer) ..

/-- A request's effect outside the interface, then its reply. -/
theorem HoldChange.formReply {s t : State} (h : HoldChange s t) (hs : MayReply s) (status : ReplyStatus) (payload : List Byte) :
    MgmtInv (formReply status payload t) := (h.mayReply hs).formReply ..

theorem HoldChange.groupReply {s t : State} (h : HoldChange s t) (hs : MayReply s) (status : ReplyStatus) (g : Nat) :
    MgmtInv (groupReply status g t) := h.formReply hs ..

theorem HoldChange.scanReply {s t : State} (h : HoldChange s t) (hs : MayReply s) : MgmtInv (scanReply t) :=
  h.formReply hs .ok (scanStateCode t.scan.state :: bytes16 t.scan.period)

theorem HoldChange.refl (s : State) : HoldChange s s := .same (.refl s)

theorem replies_configureUplink (f : Fin 32 × UplinkConfig) : Replies fun s =>
    formReply .ok (byteOfNat f.1.val :: encodeConfig (clampConfig f.2)) (stepUplink f.1 (Uplink.configure (clampConfig f.2)) s) :=
  fun s hs => (keepsWaiting_stepUplink f.1 _ s).hold.formReply hs ..

theorem replies_stepUplinks (us : UplinkSet) (f : Fin 32 → Uplink → Uplink) : Replies fun s => formReply .ok [] (stepUplinks us f s) :=
  fun s hs => (keepsWaiting_stepUplinks us f s).hold.formReply hs ..

theorem replies_formReply {status : ReplyStatus} {payload : State → List Byte} : Replies fun s => formReply status (payload s) s :=
  fun _ hs => hs.formReply ..

/-- A group request or a survey waits for its accesses. -/
theorem replies_beginServing {r : Request} (hr : ∀ b, r ≠ .barrier b) : Replies (beginServing r) := by
  intro s hs
  have hnone (b : BarrierTest) : (beginServing r s).mgmt.iface ≠ .serving (.barrier b) := fun hb => hr b (by cases hb; rfl)
  refine (mgmtInv_iff _).mpr ⟨⟨fun hlow => ?_, fun howed => ?_, iff_of_true hs.timer hnone⟩, fun b hb => absurd hb (hnone b)⟩
  · exact absurd (hs.mrst.symm.trans hlow) (by decide)
  · exact absurd (hs.resetOwed.symm.trans howed) (by decide)

/-- A Barrier is answered at once, or waits with its timer running (R152). -/
theorem replies_takeBarrier (f : BarrierFields) : Replies (takeBarrier f) := by
  intro s hs
  refine mgmtInv_barrierCheck ⟨fun hlow => ?_, fun howed => ?_, iff_of_false ?_ fun hnone => hnone _ rfl⟩
  · exact absurd (hs.mrst.symm.trans hlow) (by decide)
  · exact absurd (hs.resetOwed.symm.trans howed) (by decide)
  · rintro ⟨⟩

theorem replies_whenReady {serve : State → State} (hserve : Replies serve) : Replies (whenReady serve) := by
  intro s hs
  unfold whenReady
  split
  · exact hserve s hs
  · exact hs.formReply ..

theorem replies_presentGroupRequest (g : Nat) (members : Option (List Member)) (r : GroupRequest) :
    Replies (presentGroupRequest g members r) := by
  refine replies_whenReady fun s hs => ?_
  split
  · exact hs.formReply ..
  · split
    · exact hs.formReply ..
    · exact replies_beginServing (fun b hb => by cases hb) s hs

/-! ### The requests' effects outside the interface -/

/-- A write of a record and its report. -/
theorem holdChange_writeReported (g h : Nat) (r : Group) (n : Generation) (s : State) :
    HoldChange s (reportChange h n (writeGroup g r s)) := .same (.of_mgmt (by simp [writeGroup]) (by simp [writeGroup]))

theorem replies_installAccess (f : InstallFields) : Replies (installAccess f) := by
  intro s hs
  cases hg : (s.group f.group).state with
  | active => rw [installAccess_active hg]; exact (HoldChange.refl s).groupReply hs ..
  | retiring => rw [installAccess_retiring hg]; exact (HoldChange.refl s).groupReply hs ..
  | free => rw [installAccess_free hg]; exact (holdChange_writeReported ..).groupReply hs ..

theorem replies_modifyAccess (f : ModifyFields) : Replies (modifyAccess f) := by
  intro s hs
  cases href : refusalOf f.expected (s.group f.group) with
  | some status => rw [modifyAccess_refused href]; exact (HoldChange.refl s).groupReply hs ..
  | none =>
    cases hnew : sameContent (s.group f.group) (modifiedGroup f (s.group f.group) s.settled) with
    | true => rw [modifyAccess_unchanged href hnew]; exact (HoldChange.refl s).groupReply hs ..
    | false => rw [modifyAccess_changed href hnew]; exact (holdChange_writeReported ..).groupReply hs ..

theorem replies_retireAccess (g : Nat) (expected : Generation) : Replies (retireAccess g expected) := by
  intro s hs
  cases href : refusalOf expected (s.group g) with
  | some status => rw [retireAccess_refused href]; exact (HoldChange.refl s).groupReply hs ..
  | none =>
    rw [retireAccess_applied href]
    exact HoldChange.groupReply (.trans (holdChange_writeReported ..) (.same (.completeGroup ..))) hs ..

theorem replies_surveyAccess (v : Survey) : Replies (surveyAccess v) := by
  intro s hs
  unfold surveyAccess
  dsimp only
  split
  · exact hs.formReply ..
  · exact replies_beginServing (fun b hb => by cases hb) s hs

theorem replies_rebalance (first count : Nat) : Replies (rebalance first count) := by
  intro s hs
  unfold rebalance
  split
  · exact hs.formReply ..
  · split
    · exact hs.formReply ..
    · exact (WaitChange.trans (waitChange_queued s s.settled _) (keepsWaiting_startIfIdle _)).hold.formReply hs ..

theorem holdChange_clearCounters (s : State) : HoldChange s (clearCounters s) := by
  refine .same ?_
  constructor <;> simp only [clearCounters]

/-! ### The frames and accesses around a meaning -/

theorem mgmtInv_unlessReset {s t : State} {f : State → State} (h : unlessReset s f = .next t) (hs : MgmtInv s) (hf : MgmtInv (f s)) :
    MgmtInv t := by
  rcases unlessReset_next h with ⟨-, rfl⟩ | ⟨-, rfl⟩
  · exact hs
  · exact hf

theorem mgmtInv_of_keepsWaiting {s t : State} {f : State → State} (h : unlessReset s f = .next t) (hf : KeepsWaiting f)
    (hs : MgmtInv s) : MgmtInv t := mgmtInv_unlessReset h hs ((hf s).keeps_mgmtInv hs)

/-- A frame that is dropped finds the interface busy, so MRST_N is high, and leaves what it is busy with. -/
theorem mgmtInv_dropFrame {s : State} (hmrst : s.mrst = false) (hs : MgmtInv s) : MgmtInv (dropFrame s) := by
  obtain ⟨-, howed, hbarrier⟩ := hs
  exact ⟨fun hlow => absurd (hmrst.symm.trans hlow) (by decide), howed, hbarrier⟩

theorem waitChange_sdo (s : State) (sdo : List Byte) : WaitChange s { s with mgmt := { s.mgmt with sdo := sdo } } :=
  .of_hold ⟨rfl, rfl, rfl, rfl, rfl, rfl⟩ rfl rfl rfl

theorem mgmtInv_judgeFrame {n : Nat} {serve : State → State} {s : State} (hserve : Replies serve) (hs : MgmtInv s) :
    MgmtInv (judgeFrame n serve s) := by
  have hfed := (waitChange_sdo s (List.replicate (n + 1) Config.fill)).keeps_mgmtInv hs
  rcases judgeFrame_cases n serve s with ⟨-, h⟩ | ⟨hmrst, hidle, h⟩ | ⟨hmrst, -, h⟩ <;> rw [h]
  · exact hs
  · exact hserve _ (((mgmtInv_iff _).mp hfed).1.mayReply_idle hmrst hidle)
  · exact mgmtInv_dropFrame hmrst hfed

section Requests
variable {α : Type} {dec : List Byte → Option α} {rest : List Byte} {serve : α → State → State} {s t : State}

theorem mgmtInv_takeRequest (hserve : ∀ a, Replies (serve a)) (hs : MgmtInv s) : MgmtInv (takeRequest dec rest serve s) := by
  refine mgmtInv_judgeFrame (fun m hm => ?_) hs
  split
  · exact hm.formReply ..
  · exact hserve _ m hm

theorem mgmtInv_of_takeRequest (h : unlessReset s (takeRequest dec rest serve) = .next t) (hserve : ∀ a, Replies (serve a))
    (hs : MgmtInv s) : MgmtInv t :=
  mgmtInv_unlessReset h hs (mgmtInv_takeRequest hserve hs)

theorem mgmtInv_of_takeOwnRequest {own : α → Bool} (h : unlessReset s (takeOwnRequest dec own rest serve) = .next t)
    (hserve : ∀ a, Replies (serve a)) (hs : MgmtInv s) : MgmtInv t := by
  refine mgmtInv_unlessReset h hs ?_
  unfold takeOwnRequest
  split
  · exact mgmtInv_takeRequest hserve hs
  · exact hs

end Requests

theorem waitChange_granted (q : Requester) (s : State) : WaitChange s (granted q s) := .outside rfl rfl rfl rfl rfl

theorem mgmtInv_access {q : Requester} {f : State → State} {s : State} (hf : MgmtInv (f (granted q s))) (hs : MgmtInv s) :
    MgmtInv (access q f s) := by
  rcases access_cases q f s with ⟨-, h⟩ | ⟨-, h⟩ <;> rw [h]
  · exact hf
  · exact hs

/-- The access of a group request or of a survey in progress. -/
theorem mgmtInv_mgmtAccess {f : State → State} {s : State} {r : Request} (hf : Replies f) (hserving : s.mgmt.iface = .serving r)
    (hr : ∀ b, r ≠ .barrier b) (hs : MgmtInv s) : MgmtInv (access .mgmt f s) := by
  have hsteady : MgmtSteady (granted .mgmt s) := (waitChange_granted .mgmt s).hold.keeps_steady ((mgmtInv_iff s).mp hs).1
  exact mgmtInv_access (hf _ (hsteady.mayReply_serving hserving hr)) hs

theorem keepsWaiting_access {q : Requester} {f : State → State} (hf : KeepsWaiting f) : KeepsWaiting (access q f) := by
  intro s
  rcases access_cases q f s with ⟨-, h⟩ | ⟨-, h⟩ <;> rw [h]
  · exact .trans (waitChange_granted q s) (hf _)
  · exact .refl s

/-! ### Resets -/

/-- An interface that is IDLE with nothing owed, dropped, enabled or timed is in order under either level of MRST_N. -/
theorem mgmtInv_of_idle {s : State} (hidle : s.mgmt.iface = .idle) (howed : s.mgmt.resetOwed = false) (hdropped : s.mgmt.dropped = false)
    (henables : s.mgmt.enables = 0#8) (htimer : s.mgmt.barrierTimer = .stopped) : MgmtInv s := by
  refine ⟨fun _ => ⟨hidle, howed, hdropped, henables, htimer⟩, fun h => absurd (howed.symm.trans h) (by decide), ?_⟩
  rw [BarrierOk, hidle]
  exact htimer

theorem mgmtInv_fullReset (s : State) : MgmtInv s.fullReset := mgmtInv_of_idle rfl rfl rfl rfl rfl

theorem mgmtInv_readFrame {clocked : Nat} {s : State} (hs : MgmtInv s) : MgmtInv (readFrame clocked s) := by
  unfold readFrame
  split
  · exact hs
  next hmrst =>
    split
    next r hr =>
      dsimp only
      split
      · exact (waitChange_sdo _ _).keeps_mgmtInv ((keepsWaiting_takeHeldLocks _).keeps_mgmtInv (mgmtInv_fullReset _))
      · refine ⟨fun hlow => absurd hlow hmrst, fun howed => absurd howed Bool.false_ne_true, ?_⟩
        exact ((mgmtInv_iff s).mp hs).1.timer.mpr fun b hb => by rw [hr] at hb; cases hb
    · exact (waitChange_sdo s _).keeps_mgmtInv hs

theorem mgmtInv_mrstNRelease {s : State} (hs : MgmtInv s) : MgmtInv { s with mrst := false } := by
  obtain ⟨-, howed, hbarrier⟩ := hs
  exact ⟨fun hlow => absurd hlow Bool.false_ne_true, howed, hbarrier⟩

/-! ### Every command -/

section Commands
variable {s t : State} (hs : MgmtInv s)
include hs

theorem mgmtInv_scanFrameStart (h : execScanFrameStart s = .next t) : MgmtInv t := by
  refine mgmtInv_of_keepsWaiting h (fun s => ?_) hs
  split
  · exact .refl s
  · exact waitChange_scan s _ false 0#8

theorem mgmtInv_scanFrameJudged {bits : BitVec 68} (h : execScanFrameJudged bits s = .next t) : MgmtInv t := by
  refine mgmtInv_of_keepsWaiting h (fun s => ?_) hs
  split
  · exact .refl s
  · split
    · exact .trans (waitChange_scan s _ _ _) (keepsWaiting_stepUplinks _ _ _)
    · exact waitChange_scan s _ _ _

theorem mgmtInv_installGroup {stage : AccessStage} (h : execInstallGroup stage s = .next t) : MgmtInv t := by
  refine mgmtInv_unlessReset h hs ?_
  split
  · exact mgmtInv_takeRequest (fun f => replies_presentGroupRequest _ _ _) hs
  · split
    next f hserving => exact mgmtInv_mgmtAccess (replies_installAccess f) hserving (fun b hb => by cases hb) hs
    next => exact hs

theorem mgmtInv_modifyGroup {stage : AccessStage} (h : execModifyGroup stage s = .next t) : MgmtInv t := by
  refine mgmtInv_unlessReset h hs ?_
  split
  · exact mgmtInv_takeRequest (fun f => replies_presentGroupRequest _ _ _) hs
  · split
    next f hserving => exact mgmtInv_mgmtAccess (replies_modifyAccess f) hserving (fun b hb => by cases hb) hs
    next => exact hs

theorem mgmtInv_retireGroup {stage : AccessStage} (h : execRetireGroup stage s = .next t) : MgmtInv t := by
  refine mgmtInv_unlessReset h hs ?_
  split
  · exact mgmtInv_takeRequest (fun f => replies_presentGroupRequest _ _ _) hs
  · split
    next g n hserving => exact mgmtInv_mgmtAccess (replies_retireAccess g n) hserving (fun b hb => by cases hb) hs
    next => exact hs

theorem mgmtInv_readGroup {stage : AccessStage} (h : execReadGroup stage s = .next t) : MgmtInv t := by
  refine mgmtInv_unlessReset h hs ?_
  split
  · exact mgmtInv_takeRequest (fun f => replies_presentGroupRequest _ _ _) hs
  · split
    next g hserving => exact mgmtInv_mgmtAccess replies_formReply hserving (fun b hb => by cases hb) hs
    next => exact hs

theorem mgmtInv_rangeSurvey {rest : List Byte} (h : execRangeSurvey rest s = .next t) : MgmtInv t := by
  refine mgmtInv_of_takeRequest h (fun f => replies_whenReady fun m hm => ?_) hs
  split
  · exact hm.formReply ..
  · exact replies_beginServing (fun b hb => by cases hb) m hm

theorem mgmtInv_rangeSurveyAccess (h : execRangeSurveyAccess s = .next t) : MgmtInv t := by
  refine mgmtInv_unlessReset h hs ?_
  split
  next v hserving => exact mgmtInv_mgmtAccess (replies_surveyAccess v) hserving (fun b hb => by cases hb) hs
  next => exact hs

/-- An access of the Walk Engine, of the job that was in progress when it was granted. -/
theorem mgmtInv_walkAccess {f : State → State} (hf : WaitChange (granted .walk s) (f (granted .walk s))) :
    MgmtInv (access .walk f s) :=
  mgmtInv_access (((waitChange_granted .walk s).trans hf).keeps_mgmtInv hs) hs

theorem mgmtInv_uplinkJobVisit (h : execUplinkJobVisit s = .next t) : MgmtInv t := by
  refine mgmtInv_unlessReset h hs ?_
  split
  next u g hjob => exact mgmtInv_walkAccess hs (waitChange_uplinkVisit hjob)
  next => exact hs

theorem mgmtInv_closingAccess (h : execClosingAccess s = .next t) : MgmtInv t := by
  refine mgmtInv_unlessReset h hs ?_
  split
  · exact mgmtInv_walkAccess hs (keepsWaiting_endJob _)
  · exact hs

theorem mgmtInv_sweepVisit (h : execSweepVisit s = .next t) : MgmtInv t := by
  refine mgmtInv_unlessReset h hs ?_
  split
  next first count next hjob => exact mgmtInv_walkAccess hs (waitChange_sweepJobVisit hjob)
  next => exact hs

/-- A Barrier whose timer expires ends with its timer stopped (R153). -/
theorem mgmtInv_barrierTimerExpiry (h : execBarrierTimerExpiry s = .next t) : MgmtInv t := by
  refine mgmtInv_unlessReset h hs ?_
  split
  next b hserving =>
    split
    · exact hs
    · have hmrst := (((mgmtInv_iff s).mp hs).1.of_serving hserving).1
      exact mgmtInv_formReply (s := { s with mgmt := { s.mgmt with barrierTimer := .stopped } }) hmrst rfl ..
  next => exact hs

theorem mgmtInv_unknownRequestKind {kind : Byte} {rest : List Byte} (h : execUnknownRequestKind kind rest s = .next t) : MgmtInv t := by
  refine mgmtInv_unlessReset h hs ?_
  split
  · exact mgmtInv_judgeFrame replies_formReply hs
  · exact hs

theorem mgmtInv_requestDropped {frame : List Byte} (h : execRequestDropped frame s = .next t) : MgmtInv t := by
  refine mgmtInv_unlessReset h hs ?_
  split
  next hbusy =>
    have hfed := (waitChange_sdo s (List.replicate (frame.length - 1 + 1) Config.fill)).keeps_mgmtInv hs
    rcases judgeFrame_cases (frame.length - 1) id s with ⟨-, h⟩ | ⟨-, hidle, -⟩ | ⟨hmrst, -, h⟩
    · rw [h]; exact hs
    · exact absurd hidle hbusy.2
    · rw [h]; exact mgmtInv_dropFrame hmrst hfed
  next => exact hs

theorem mgmtInv_initSweepEnd (h : execInitSweepEnd s = .next t) : MgmtInv t := by
  refine mgmtInv_of_keepsWaiting h (fun s => ?_) hs
  split
  · exact .refl s
  · refine .trans ?_ (.raise ..)
    exact .outside rfl rfl rfl rfl rfl

theorem mgmtInv_laneLockGained {i : PortId} (h : execLaneLockGained i s = .next t) : MgmtInv t := by
  cases h
  refine WaitChange.keeps_mgmtInv ?_ hs
  split
  · exact waitChange_lock i true s
  · split
    · exact (waitChange_lock i true s).trans (keepsWaiting_enterSync i _)
    · exact waitChange_lock i true s

theorem mgmtInv_laneLockLost {i : PortId} (h : execLaneLockLost i s = .next t) : MgmtInv t := by
  cases h
  refine WaitChange.keeps_mgmtInv ?_ hs
  split
  · exact waitChange_lock i false s
  · split
    · exact waitChange_lock i false s
    · exact (waitChange_lock i false s).trans (keepsWaiting_portReset i .down _)

theorem mgmtInv_resolve {i : PortId} {index : BitVec 16} (h : execResolve i index s = .next t) : MgmtInv t := by
  refine mgmtInv_of_keepsWaiting h (fun s => ?_) hs
  dsimp only
  split
  · exact .refl s
  · split
    · exact keepsWaiting_protocolError i s
    · exact .setPort id

theorem mgmtInv_vectorAck {i : PortId} {sequence : Byte} (h : execVectorAck i sequence s = .next t) : MgmtInv t := by
  refine mgmtInv_of_keepsWaiting h (fun s => ?_) hs
  dsimp only
  split
  · exact .refl s
  · split
    · exact keepsWaiting_protocolError i s
    · split
      · exact keepsWaiting_protocolError i s
      · exact waitChange_ackTaken i _ s

theorem mgmtInv_retractDone {i : PortId} {group : BitVec 16} (h : execRetractDone i group s = .next t) : MgmtInv t := by
  refine mgmtInv_of_keepsWaiting h (fun s => ?_) hs
  dsimp only
  split
  · split
    · exact keepsWaiting_protocolError i s
    · split
      · exact keepsWaiting_takeRetractDone i _ s
      · exact keepsWaiting_protocolError i s
  · exact keepsWaiting_protocolError i s
  · exact .refl s
  · exact .refl s

/-- A message that is an error under some condition. -/
theorem mgmtInv_laneError {p : Prop} [Decidable p] {i : PortId}
    (h : unlessReset s (fun s => if p then protocolError i s else s) = .next t) : MgmtInv t := by
  refine mgmtInv_of_keepsWaiting h (fun s => ?_) hs
  split
  · exact keepsWaiting_protocolError i s
  · exact .refl s

theorem mgmtInv_ackTimerExpiry {i : PortId} (h : execAckTimerExpiry i s = .next t) : MgmtInv t := by
  refine mgmtInv_of_keepsWaiting h (fun s => ?_) hs
  split
  · exact .refl s
  · exact keepsWaiting_protocolError i s

theorem mgmtInv_answerLeaves {i : PortId} (h : execAnswerLeaves i s = .next t) : MgmtInv t := by
  refine mgmtInv_of_keepsWaiting h (fun s => ?_) hs
  split
  · exact .setPort id
  · exact .refl s

theorem mgmtInv_messageLeaves {i : PortId} (h : execMessageLeaves i s = .next t) : MgmtInv t := by
  refine mgmtInv_of_keepsWaiting h (fun s => ?_) hs
  split
  · exact .refl s
  · exact .refl s
  · exact .setPort id

theorem mgmtInv_porstNAssert (h : execPorstNAssert s = .next t) : MgmtInv t := by
  cases h
  split
  · exact hs
  · exact mgmtInv_of_idle rfl rfl rfl rfl rfl

theorem mgmtInv_porstNRelease (h : execPorstNRelease s = .next t) : MgmtInv t := by
  cases h
  split
  · refine WaitChange.keeps_mgmtInv (.trans ?_ (keepsWaiting_takeHeldLocks _)) hs
    exact .outside rfl rfl rfl rfl rfl
  · exact hs

end Commands

/-- Every command keeps the interface in order. -/
theorem exec_keeps_mgmtInv (c : Instr) {s t : State} (h : exec c s = .next t) (hs : MgmtInv s) : MgmtInv t := by
  cases c with
  | filteredLineLevelChange u level => exact mgmtInv_of_keepsWaiting h (keepsWaiting_stepUplink u _) hs
  | scanFrameStart => exact mgmtInv_scanFrameStart hs h
  | scanFrameJudged bits => exact mgmtInv_scanFrameJudged hs h
  | qualifyTimerExpiry u => exact mgmtInv_of_keepsWaiting h (keepsWaiting_stepUplink u _) hs
  | restoreTimerExpiry u => exact mgmtInv_of_keepsWaiting h (keepsWaiting_stepUplink u _) hs
  | holdTimerExpiry u => exact mgmtInv_of_keepsWaiting h (keepsWaiting_stepUplink u _) hs
  | windowTimerExpiry u => exact mgmtInv_of_keepsWaiting h (keepsWaiting_stepUplink u _) hs
  | configureUplink rest => exact mgmtInv_of_takeRequest h replies_configureUplink hs
  | setAdminClear rest => exact mgmtInv_of_takeOwnRequest h (fun f => replies_stepUplinks f.2 _) hs
  | setAdminSet rest => exact mgmtInv_of_takeOwnRequest h (fun f => replies_stepUplinks f.2 _) hs
  | configureScanEnable rest =>
    exact mgmtInv_of_takeOwnRequest h (fun f s hm => (keepsWaiting_enableScan f.2 s).hold.scanReply hm) hs
  | configureScanDisable rest =>
    exact mgmtInv_of_takeOwnRequest h (fun f s hm => (keepsWaiting_disableScan f.2 s).hold.scanReply hm) hs
  | readUplink rest => exact mgmtInv_of_takeRequest h (fun _ => replies_formReply) hs
  | installGroup stage => exact mgmtInv_installGroup hs h
  | modifyGroup stage => exact mgmtInv_modifyGroup hs h
  | retireGroup stage => exact mgmtInv_retireGroup hs h
  | readGroup stage => exact mgmtInv_readGroup hs h
  | rangeSurvey rest => exact mgmtInv_rangeSurvey hs h
  | rangeSurveyAccess => exact mgmtInv_rangeSurveyAccess hs h
  | rebalanceRange rest => exact mgmtInv_of_takeRequest h (fun f => replies_whenReady (replies_rebalance _ _)) hs
  | uplinkJobVisit => exact mgmtInv_uplinkJobVisit hs h
  | closingAccess => exact mgmtInv_closingAccess hs h
  | sweepVisit => exact mgmtInv_sweepVisit hs h
  | barrier rest => exact mgmtInv_of_takeRequest h (fun f => replies_whenReady (replies_takeBarrier f)) hs
  | barrierTimerExpiry => exact mgmtInv_barrierTimerExpiry hs h
  | identify rest => exact mgmtInv_of_takeRequest h (fun _ => replies_formReply) hs
  | readStatus rest => exact mgmtInv_of_takeRequest h (fun _ => replies_formReply) hs
  | configurePorts rest => exact mgmtInv_of_takeRequest h (fun _ _ hm => by refine hm.formReply_of ?_ ?_ .. <;> rfl) hs
  | readEvents rest => exact mgmtInv_of_takeRequest h (fun _ _ hm => by refine hm.formReply_of ?_ ?_ .. <;> rfl) hs
  | setEventEnablesSet rest => exact mgmtInv_of_takeOwnRequest h (fun _ _ hm => by refine hm.formReply_of ?_ ?_ .. <;> rfl) hs
  | setEventEnablesClear rest => exact mgmtInv_of_takeOwnRequest h (fun _ _ hm => by refine hm.formReply_of ?_ ?_ .. <;> rfl) hs
  | readCounters rest => exact mgmtInv_of_takeOwnRequest h (fun _ => replies_formReply) hs
  | readCountersClear rest =>
    exact mgmtInv_of_takeOwnRequest h (fun _ s hm => (holdChange_clearCounters s).formReply hm ..) hs
  | fullResetRequest rest => exact mgmtInv_of_takeRequest h (fun _ _ hm => by refine hm.formReply_of ?_ ?_ .. <;> rfl) hs
  | unknownRequestKind kind rest => exact mgmtInv_unknownRequestKind hs h
  | requestDropped frame => exact mgmtInv_requestDropped hs h
  | readFrame clocked => exact mgmtInv_unlessReset h hs (mgmtInv_readFrame hs)
  | mrstNAssert => cases h; exact mgmtInv_of_idle rfl rfl rfl rfl rfl
  | mrstNRelease => cases h; exact mgmtInv_mrstNRelease hs
  | porstNAssert => exact mgmtInv_porstNAssert hs h
  | porstNRelease => exact mgmtInv_porstNRelease hs h
  | initSweepEnd => exact mgmtInv_initSweepEnd hs h
  | laneLockGained i => exact mgmtInv_laneLockGained hs h
  | laneLockLost i => exact mgmtInv_laneLockLost hs h
  | resolve i index => exact mgmtInv_resolve hs h
  | resolveAccess i => exact mgmtInv_of_keepsWaiting h (keepsWaiting_access (keepsWaiting_serveResolve i)) hs
  | vectorAck i sequence => exact mgmtInv_vectorAck hs h
  | retractDone i group => exact mgmtInv_retractDone hs h
  | unknownKind i bytes => exact mgmtInv_laneError hs h
  | ackTimerExpiry i => exact mgmtInv_ackTimerExpiry hs h
  | answerLeaves i => exact mgmtInv_answerLeaves hs h
  | messageLeaves i => exact mgmtInv_messageLeaves hs h
  | wrongLengthMessage i bytes => exact mgmtInv_laneError hs h

/-- Settles O12: a command replies with the Barrier's timer stopped, leaves a waiting Barrier what it waits for, or evaluates its test. -/
theorem managementStaysInOrder : Obligations.ManagementStaysInOrder := by
  intro s t hs h
  rcases step_cases h with rfl | ⟨c, rest, hexec⟩
  · exact hs
  · refine exec_keeps_mgmtInv c hexec (WaitChange.keeps_mgmtInv ?_ hs)
    exact .outside rfl rfl rfl rfl rfl

end Sys2Proof.Proofs
end

section
/-! PROOFS. Request frames and read frames on the management link: which bytes are malformed, what becomes of a frame that is dropped, and
what a read frame shifts out (R133 to R138, R143, R154, R170; O14, O47, O48). -/
namespace Sys2Proof.Proofs
open Sys2Proof.Machine Sys2Proof.Safety Sys2Proof.Claims

/-! ### Payloads that decode fit their kind (R138, R171) -/

theorem isChoice_of_decodeChoice {b : Byte} {c : Bool} (h : decodeChoice b = some c) : isChoice (some b) = true := by
  unfold decodeChoice at h
  split_ifs at h with h1 h0
  · subst h1; rfl
  · subst h0; rfl

theorem isChoice_of_decodeMode {b : Byte} {m : Mode} (h : decodeMode b = some m) : isChoice (some b) = true := by
  unfold decodeMode at h
  split_ifs at h with h0 h1
  · subst h0; rfl
  · subst h1; rfl

/-- The term bytes read are the first ones. -/
theorem takeTerms_rest {n : Nat} {bs rest : List Byte} {ts : List Term} (h : takeTerms n bs = some (ts, rest)) :
    n ≤ bs.length ∧ rest = bs.drop n := by
  induction n generalizing bs ts with
  | zero =>
    cases h
    exact ⟨Nat.zero_le _, rfl⟩
  | succ n ih =>
    cases bs with
    | nil => cases h
    | cons b bs =>
      rw [takeTerms, Option.map_eq_some_iff] at h
      obtain ⟨⟨us, rest'⟩, htail, heq⟩ := h
      cases heq
      obtain ⟨hlen, hrest⟩ := ih htail
      exact ⟨Nat.succ_le_succ hlen, hrest⟩

/-- Members that are read to the last byte fit their payload. -/
theorem membersFit_of_takeMembers {n : Nat} {bs : List Byte} {ms : List Member} (h : takeMembers n bs = some (ms, [])) :
    membersFit n bs = true := by
  induction n generalizing bs ms with
  | zero =>
    cases h
    rfl
  | succ n ih =>
    match bs with
    | [] => cases h
    | [_] => cases h
    | u :: a :: bs =>
      simp only [takeMembers] at h
      split at h
      · cases h
      next ts rest hterms =>
        obtain ⟨⟨us, rest'⟩, htail, heq⟩ := Option.map_eq_some_iff.mp h
        cases heq
        obtain ⟨hlen, rfl⟩ := takeTerms_rest hterms
        rw [membersFit, decide_eq_true hlen, Bool.true_and]
        exact ih htail

theorem membersFit_of_decodeMembers {n : Byte} {bs : List Byte} {ms : List Member} (h : decodeMembers (n :: bs) = some ms) :
    membersFit n.toNat bs = true := by
  simp only [decodeMembers] at h
  split at h
  next htaken => exact membersFit_of_takeMembers htaken
  next => cases h

theorem fits_empty {k : Byte} (hk : k = 0x01#8 ∨ k = 0x02#8 ∨ k = 0x40#8 ∨ k = 0x5A#8) (p : List Byte) (u : Unit)
    (h : decodeEmpty p = some u) : payloadFits k p = true := by
  unfold decodeEmpty at h
  split at h
  · rcases hk with rfl | rfl | rfl | rfl <;> rfl
  · cases h

theorem fits_configureUplink (p : List Byte) (a : Fin 32 × UplinkConfig) (h : decodeConfigureUplink p = some a) :
    payloadFits 0x10#8 p = true := by
  unfold decodeConfigureUplink at h
  split at h
  next u o q r1 r0 w h1 h0 =>
    split at h
    · cases h
    next hreserved =>
      obtain ⟨h2, h3⟩ : o.getLsbD 2 = false ∧ o.getLsbD 3 = false := by simpa using hreserved
      have hfits : payloadFits 0x10#8 [u, o, q, r1, r0, w, h1, h0] = (true && (o.getLsbD 2 == false) && (o.getLsbD 3 == false)) := rfl
      rw [hfits, h2, h3]
      rfl
  · cases h

theorem fits_readUplink (p : List Byte) (a : Fin 32) (h : decodeReadUplink p = some a) : payloadFits 0x11#8 p = true := by
  unfold decodeReadUplink at h
  split at h
  · rfl
  · cases h

theorem fits_setAdmin (p : List Byte) (a : Bool × UplinkSet) (h : decodeSetAdmin p = some a) : payloadFits 0x12#8 p = true := by
  unfold decodeSetAdmin at h
  split at h
  · obtain ⟨c, hc, -⟩ := Option.map_eq_some_iff.mp h
    exact isChoice_of_decodeChoice hc
  · cases h

theorem fits_configureScan (p : List Byte) (a : Bool × BitVec 16) (h : decodeConfigureScan p = some a) :
    payloadFits 0x13#8 p = true := by
  unfold decodeConfigureScan at h
  split at h
  · obtain ⟨c, hc, -⟩ := Option.map_eq_some_iff.mp h
    exact isChoice_of_decodeChoice hc
  · cases h

theorem fits_configurePorts (p : List Byte) (a : Byte) (h : decodeConfigurePorts p = some a) : payloadFits 0x14#8 p = true := by
  unfold decodeConfigurePorts at h
  split at h
  · rfl
  · cases h

theorem fits_install (p : List Byte) (f : InstallFields) (h : decodeInstall p = some f) : payloadFits 0x20#8 p = true := by
  unfold decodeInstall at h
  split at h
  next g1 g0 m fl ms =>
    split at h
    next mode members hmode hmembers =>
      cases ms with
      | nil => cases hmembers
      | cons n bs =>
        have hfits : payloadFits 0x20#8 (g1 :: g0 :: m :: fl :: n :: bs) =
            (decide (5 ≤ bs.length + 5) && isChoice (some m) && membersFit n.toNat bs) := rfl
        rw [hfits, isChoice_of_decodeMode hmode, membersFit_of_decodeMembers hmembers, decide_eq_true (by omega)]
        rfl
    next => cases h
  · cases h

theorem fits_modify (p : List Byte) (f : ModifyFields) (h : decodeModify p = some f) : payloadFits 0x21#8 p = true := by
  unfold decodeModify at h
  split at h
  next g1 g0 e3 e2 e1 e0 m fl ms =>
    split at h
    next mode members hmode hmembers =>
      cases ms with
      | nil => cases hmembers
      | cons n bs =>
        have hfits : payloadFits 0x21#8 (g1 :: g0 :: e3 :: e2 :: e1 :: e0 :: m :: fl :: n :: bs) =
            (decide (9 ≤ bs.length + 9) && isChoice (some m) && membersFit n.toNat bs) := rfl
        rw [hfits, isChoice_of_decodeMode hmode, membersFit_of_decodeMembers hmembers, decide_eq_true (by omega)]
        rfl
    next => cases h
  · cases h

theorem fits_retire (p : List Byte) (a : Nat × Generation) (h : decodeRetire p = some a) : payloadFits 0x22#8 p = true := by
  unfold decodeRetire at h
  split at h
  · rfl
  · cases h

theorem fits_readGroup (p : List Byte) (g : Nat) (h : decodeReadGroup p = some g) : payloadFits 0x23#8 p = true := by
  unfold decodeReadGroup at h
  split at h
  · rfl
  · cases h

theorem fits_range {k : Byte} (hk : k = 0x24#8 ∨ k = 0x25#8) (p : List Byte) (a : Nat × Nat) (h : decodeRange p = some a) :
    payloadFits k p = true := by
  unfold decodeRange at h
  split at h
  · rcases hk with rfl | rfl <;> rfl
  · cases h

theorem lt_four_of_reserved (o : Byte) (h : o.extractLsb' 2 6 = 0#6) : o.toNat < 4 := by
  decide +revert

theorem fits_barrier (p : List Byte) (f : BarrierFields) (h : decodeBarrier p = some f) : payloadFits 0x30#8 p = true := by
  unfold decodeBarrier at h
  split at h
  next s3 s2 s1 s0 o t1 t0 =>
    split at h
    next hreserved =>
      have hfits : payloadFits 0x30#8 [s3, s2, s1, s0, o, t1, t0] = (true && decide (o.toNat < 4)) := rfl
      rw [hfits, decide_eq_true (lt_four_of_reserved o hreserved)]
      rfl
    next => cases h
  · cases h

theorem fits_setEnables (p : List Byte) (a : Bool × Byte) (h : decodeSetEnables p = some a) : payloadFits 0x41#8 p = true := by
  unfold decodeSetEnables at h
  split at h
  · obtain ⟨c, hc, -⟩ := Option.map_eq_some_iff.mp h
    exact isChoice_of_decodeChoice hc
  · cases h

theorem fits_readCounters (p : List Byte) (c : Bool) (h : decodeReadCounters p = some c) : payloadFits 0x42#8 p = true := by
  unfold decodeReadCounters at h
  split at h
  · exact isChoice_of_decodeChoice h
  · cases h

/-! ### Malformed frames (R138) -/

theorem be16_toNat (hi lo : Byte) : (be16 hi lo).toNat = hi.toNat * 256 + lo.toNat := by
  rw [be16, BitVec.toNat_append, ← Nat.shiftLeft_add_eq_or_of_lt lo.isLt, Nat.shiftLeft_eq]

/-- A malformed frame does not decode. -/
theorem decode_none_of_not_fits {α : Type} {dec : List Byte → Option α} {k : Byte} {rest : List Byte}
    (hdec : ∀ p a, dec p = some a → payloadFits k p = true) (h : frameFits k rest = false) : (payloadOf rest).bind dec = none := by
  match rest with
  | [] => rfl
  | [_] => rfl
  | hi :: lo :: p =>
    have hfits : frameFits k (hi :: lo :: p) =
        (decide (2 ≤ p.length + 2) && decide (hi.toNat * 256 + lo.toNat = p.length) && payloadFits k p) := rfl
    rw [hfits, decide_eq_true (by omega), Bool.true_and] at h
    rw [payloadOf, be16_toNat]
    split
    next hlen =>
      rw [decide_eq_true hlen, Bool.true_and] at h
      rw [Option.bind_some, Option.eq_none_iff_forall_not_mem]
      exact fun a ha => absurd (h.symm.trans (hdec p a ha)) (by decide)
    next => rfl

/-! ### The command of a request frame -/

/-- A command that is a request frame: judged when its bytes are its row's, and answered BAD_REQUEST when they are malformed. -/
structure JudgedFrame (c : Instr) (k : Byte) (rest : List Byte) (serve : State → State) : Prop where
  exec_eq : ∀ s, exec c s = unlessReset s fun s => if c.wellFormed then judgeFrame rest.length serve s else s
  malformed : c.wellFormed = true → frameFits k rest = false → ∀ s, serve s = formReply .badRequest [] s

section Rows
variable {α : Type} {dec : List Byte → Option α} {c : Instr} {k : Byte} {rest : List Byte} {serve : α → State → State}

/-- What a request's frame does once it is taken, its payload decoded or not. -/
def serveDecoded (dec : List Byte → Option α) (rest : List Byte) (serve : α → State → State) (s : State) : State :=
  match (payloadOf rest).bind dec with
  | none => formReply .badRequest [] s
  | some a => serve a s

theorem serveDecoded_malformed (hdec : ∀ p a, dec p = some a → payloadFits k p = true) (h : frameFits k rest = false) (s : State) :
    serveDecoded dec rest serve s = formReply .badRequest [] s := by
  rw [serveDecoded, decode_none_of_not_fits hdec h]

/-- A row that has its kind to itself. -/
theorem judged_ownKind (hdec : ∀ p a, dec p = some a → payloadFits k p = true) (hwf : c.wellFormed = true)
    (hexec : ∀ s, exec c s = unlessReset s (takeRequest dec rest serve)) : ∃ f, JudgedFrame c k rest f :=
  ⟨serveDecoded dec rest serve, fun s => by rw [hexec, hwf]; rfl, fun _ h => serveDecoded_malformed hdec h⟩

/-- A row that shares its kind with another. -/
theorem judged_sharedKind {own : α → Bool} (hdec : ∀ p a, dec p = some a → payloadFits k p = true)
    (hwf : c.wellFormed = rowOf dec own rest) (hexec : ∀ s, exec c s = unlessReset s (takeOwnRequest dec own rest serve)) :
    ∃ f, JudgedFrame c k rest f :=
  ⟨serveDecoded dec rest serve, fun s => by rw [hexec, hwf]; rfl, fun _ h => serveDecoded_malformed hdec h⟩

end Rows

/-- Every command that is a request frame is judged as one. -/
theorem exists_judgedFrame {c : Instr} {k : Byte} {rest : List Byte} (h : requestBytes c = some (k, rest)) :
    ∃ serve, JudgedFrame c k rest serve := by
  cases c with
  | identify | readStatus | readEvents | fullResetRequest =>
    cases h; exact judged_ownKind (fits_empty (by decide)) rfl fun _ => rfl
  | configureUplink => cases h; exact judged_ownKind fits_configureUplink rfl fun _ => rfl
  | readUplink => cases h; exact judged_ownKind fits_readUplink rfl fun _ => rfl
  | configurePorts => cases h; exact judged_ownKind fits_configurePorts rfl fun _ => rfl
  | rebalanceRange | rangeSurvey => cases h; exact judged_ownKind (fits_range (by decide)) rfl fun _ => rfl
  | barrier => cases h; exact judged_ownKind fits_barrier rfl fun _ => rfl
  | setAdminClear | setAdminSet => cases h; exact judged_sharedKind fits_setAdmin rfl fun _ => rfl
  | configureScanEnable | configureScanDisable => cases h; exact judged_sharedKind fits_configureScan rfl fun _ => rfl
  | setEventEnablesSet | setEventEnablesClear => cases h; exact judged_sharedKind fits_setEnables rfl fun _ => rfl
  | readCounters | readCountersClear => cases h; exact judged_sharedKind fits_readCounters rfl fun _ => rfl
  | installGroup stage =>
    cases stage with
    | frame => cases h; exact judged_ownKind fits_install rfl fun _ => rfl
    | granted => cases h
  | modifyGroup stage =>
    cases stage with
    | frame => cases h; exact judged_ownKind fits_modify rfl fun _ => rfl
    | granted => cases h
  | retireGroup stage =>
    cases stage with
    | frame => cases h; exact judged_ownKind fits_retire rfl fun _ => rfl
    | granted => cases h
  | readGroup stage =>
    cases stage with
    | frame => cases h; exact judged_ownKind fits_readGroup rfl fun _ => rfl
    | granted => cases h
  | unknownRequestKind k rest => cases h; exact ⟨formReply .badRequest [], fun _ => rfl, fun _ _ _ => rfl⟩
  | _ => cases h

/-! ### What becomes of a frame (R133, R134) -/

theorem judgeFrame_held {s : State} (h : s.mrst = true) (n : Nat) (serve : State → State) : judgeFrame n serve s = s := by
  rw [judgeFrame, if_pos h]

/-- The state after a frame is dropped. -/
theorem judgeFrame_busy {s : State} (hmrst : s.mrst = false) (hbusy : s.mgmt.iface ≠ .idle) (n : Nat) (serve : State → State) :
    judgeFrame n serve s = { s with mgmt := { s.mgmt with dropped := true, droppedRequests := satInc s.mgmt.droppedRequests
                                                          sdo := List.replicate (n + 1) 0x00#8 } } := by
  rcases judgeFrame_cases n serve s with ⟨hlow, -⟩ | ⟨-, hidle, -⟩ | ⟨-, -, h⟩
  · exact absurd (hmrst.symm.trans hlow) (by decide)
  · exact absurd hidle hbusy
  · rw [h]; rfl

theorem exec_requestDropped {frame : List Byte} {s : State} (hrun : Runs s) (hframe : isRequestFrame frame = true)
    (hbusy : s.mgmt.iface ≠ .idle) : exec (.requestDropped frame) s = .next (judgeFrame (frame.length - 1) id s) := by
  simp only [exec, execRequestDropped, unlessReset_runs hrun, if_pos (And.intro hframe hbusy)]

/-- Settles O47: every request frame is judged (`exists_judgedFrame`), and a malformed one does not decode (`decode_none_of_not_fits`). -/
theorem requestFramesAreJudged : Obligations.RequestFramesAreJudged := by
  refine ⟨fun c k rest s hc hwf hrun => ?_, fun k rest s hk hrun hmrst hbusy => ?_, fun k rest s hl hk => ?_⟩
  · obtain ⟨serve, hexec, hmalformed⟩ := exists_judgedFrame hc
    rw [hexec, unlessReset_runs hrun, if_pos hwf]
    refine ⟨fun hlow => ?_, fun hmrst hbusy => ?_, fun hl hfits => ?_⟩
    · rw [judgeFrame_held hlow]
    · rw [judgeFrame_busy hmrst hbusy]
    · rw [judgeFrame_idle _ _ hl.2.1 hl.2.2, hmalformed hwf hfits]
      rfl
  · rw [exec_requestDropped hrun (by simpa [isRequestFrame, Config.readCode] using hk) hbusy, judgeFrame_busy hmrst hbusy]
    rfl
  · simp only [exec, execUnknownRequestKind, unlessReset_runs hl.1, if_pos hk, judgeFrame_idle _ _ hl.2.1 hl.2.2]
    rfl

/-! ### A management reset (R143) -/

/-- While MRST_N is low a frame changes nothing. -/
theorem exec_frame_held {c : Instr} {s : State} (hlow : s.mrst = true)
    (hc : (requestBytes c).isSome = true ∨ (∃ f, c = .requestDropped f) ∨ ∃ n, c = .readFrame n) : exec c s = .next s := by
  rcases hc with hc | ⟨f, rfl⟩ | ⟨n, rfl⟩
  · obtain ⟨⟨k, rest⟩, hbytes⟩ := Option.isSome_iff_exists.mp hc
    obtain ⟨serve, hexec, -⟩ := exists_judgedFrame hbytes
    rw [hexec, unlessReset, judgeFrame_held hlow, ite_self, ite_self]
  · simp only [exec, execRequestDropped, unlessReset, judgeFrame_held hlow, ite_self]
  · simp only [exec, execReadFrame, unlessReset, readFrame, if_pos hlow, ite_self]

/-- Settles O14: the two edges are the commands' own text; a held interface has nothing to show and takes no frame. -/
theorem managementResetHoldsTheInterface : Obligations.ManagementResetHoldsTheInterface := by
  intro s
  refine ⟨rfl, fun t ht => ?_, rfl, fun hlow c hc => exec_frame_held hlow hc⟩
  cases ht
  exact ⟨rfl, by simp [State.attn, Mgmt.heldReset]⟩

/-! ### Read frames (R135, R136, R154) -/

theorem rdy_iff (s : State) : s.rdy = true ↔ ∃ r, s.mgmt.iface = .replyReady r := by
  unfold State.rdy
  split
  next r hr => simp [hr]
  next hr => simpa using hr

/-- The bytes shifted out are the given ones with fill behind them, cut to the bytes clocked. -/
theorem shiftOut_eq (n : Nat) (bytes : List Byte) : shiftOut n bytes = (bytes ++ List.replicate n 0x00#8).take n := by
  rw [List.take_append, List.take_replicate, Nat.min_eq_left (Nat.sub_le _ _)]
  rfl

theorem replyBytes_eq (r : Reply) (dropped : Bool) : replyBytes r dropped =
    statusByte r.status :: (if dropped then 0x01#8 else 0x00#8) :: bytes16 (BitVec.ofNat 16 r.payload.length) ++ r.payload := by
  obtain ⟨status, payload⟩ := r
  cases status <;> rfl

theorem readFrame_nothing {n : Nat} {s : State} (hmrst : s.mrst = false) (h : ∀ r, s.mgmt.iface ≠ .replyReady r) :
    readFrame n s = fed n s := by
  rw [readFrame, if_neg (by simp [hmrst])]
  split
  next r hr => exact absurd hr (h r)
  next => rfl

/-- A requested full reset is one on PORST_N whose pin is high. -/
theorem requestedReset_eq {s : State} (hrun : Runs s) (m : Mgmt) : requestedReset { s with mgmt := m } = afterFullReset s := by
  have hhigh : ({ s with mgmt := m } : State).fullReset = { s.fullReset with porst := false } := by
    rw [← show s.porst = false from hrun]
    rfl
  rw [requestedReset, hhigh, takeHeldLocks_fullReset]

section Reply
variable {n : Nat} {s : State} {r : Reply} (hmrst : s.mrst = false) (h : s.mgmt.iface = .replyReady r)
include hmrst h

theorem readFrame_reply (howed : s.mgmt.resetOwed = false) : readFrame n s =
    { s with mgmt := { s.mgmt with iface := .idle, dropped := false
                                   sdo := 0x00#8 :: shiftOut n (replyBytes r s.mgmt.dropped) } } := by
  rw [readFrame, if_neg (by simp [hmrst])]
  simp only [h, if_neg (show ¬ s.mgmt.resetOwed = true by simp [howed])]
  rw [← howed]
  rfl

theorem readFrame_owed (hrun : Runs s) (howed : s.mgmt.resetOwed = true) : readFrame n s =
    { afterFullReset s with mgmt := { (afterFullReset s).mgmt with sdo := 0x00#8 :: shiftOut n (replyBytes r s.mgmt.dropped) } } := by
  rw [readFrame, if_neg (by simp [hmrst])]
  simp only [h, if_pos howed, requestedReset_eq hrun]
  rfl

end Reply

/-- A read frame whose lead byte found no reply leaves a reply that was formed meanwhile (R135). -/
theorem deselect_readsNothing {s : State} {rest : List Byte} (hrun : Runs s) (hmrst : s.mrst = false)
    (hlink : s.link = { selected := true, cut := false, found := false, clocked := 0xA5#8 :: rest }) (hrdy : s.rdy = true) :
    linkEvent .deselect s = { fed rest.length s with link := noFrame } := by
  have hnothing : s.link.readsNothing = true := by rw [hlink]; rfl
  have hkept : ({ s with link := Link.idle } : State).rdy = true := hrdy
  have hheld : ¬ (!s.link.selected || s.link.cut || s.frameless) = true := by
    simp [hlink, State.frameless, hmrst, show s.porst = false from hrun]
  have hclocked : s.link.clocked.length = rest.length + 1 := by rw [hlink]; rfl
  simp only [linkEvent, deselectLink, if_neg hheld, endFrame, hnothing, hkept, hclocked, Bool.and_self, if_true]
  rfl

/-- Settles O48: a read frame by what the interface holds, and the link's event by what the frame's lead byte found. -/
theorem readFramesReturnTheReply : Obligations.ReadFramesReturnTheReply := by
  refine ⟨rdy_iff, fun n s hrun hmrst => ⟨fun r hr out hout => ?_, fun hnone => ?_, fun rest => deselect_readsNothing hrun hmrst,
    fun hidle => ?_⟩⟩
  · have hshifted : out = 0x00#8 :: shiftOut n (replyBytes r s.mgmt.dropped) := by
      rw [hout, shiftOut_eq, replyBytes_eq]
    rw [hshifted]
    exact ⟨fun howed => (unlessReset_runs hrun _).trans (congrArg _ (readFrame_reply hmrst hr howed)),
      fun howed => (unlessReset_runs hrun _).trans (congrArg _ (readFrame_owed hmrst hr hrun howed))⟩
  · exact (unlessReset_runs hrun _).trans (congrArg _ (readFrame_nothing hmrst hnone))
  · simp only [exec, execFullResetRequest, unlessReset_runs hrun]
    rw [takeRequest_frame (payload := []) (dec := decodeEmpty) _ (by decide) rfl ⟨hrun, hmrst, hidle⟩]
    rfl

end Sys2Proof.Proofs
end

section
/-! PROOFS. The requests that are answered in one step: Identify, Read Status, Read Uplink, Configure Ports (O49), and Barrier (O37). -/
namespace Sys2Proof.Proofs
open Sys2Proof.Machine Sys2Proof.Safety Sys2Proof.Claims

/-! ### Requests answered in one step (R145, R146, R24, R106) -/

theorem portStateCode_eq (p : PortState) : portStateCode p = portByte p := by cases p <;> rfl

theorem scanStateCode_eq (c : ScanState) : scanStateCode c = scanByte c := by cases c <;> rfl

theorem uplinkStateCode_eq (v : UplinkState) : uplinkStateCode v = uplinkByte v := by cases v <;> rfl

theorem byteOfBool_isSome {α : Type} [DecidableEq α] (o : Option α) : byteOfBool o.isSome = if o = none then 0#8 else 1#8 := by
  cases o <;> rfl

theorem statusPayload_eq (s : State) : statusPayload s =
    [if s.table.ready then 1#8 else 0#8, portByte s.lp0.state, portByte s.lp1.state, scanByte s.scan.state,
      if s.walk.job = none then 0#8 else 1#8, BitVec.ofNat 8 s.walk.queue.length] ++ bytes32 s.live ++ bytes32 s.settled ++
      [s.mgmt.flags] := by
  rw [statusPayload, portStateCode_eq, portStateCode_eq, scanStateCode_eq, byteOfBool_isSome]
  rfl

/-- The indications byte bit by bit: d, the line level, the last scan code (R171). -/
theorem indications_eq (v : Uplink) : indications v =
    (if v.d then 0x01#8 else 0x00#8) ||| (if v.line then 0x02#8 else 0x00#8) |||
      (match v.code with
        | .ok => 0x00#8
        | .localFault => 0x04#8
        | .remoteFault => 0x08#8
        | .degraded => 0x0C#8) := by
  unfold indications
  cases v.code <;> cases v.d <;> cases v.line <;> rfl

theorem clampTimeout_eq (t : Byte) : clampTimeout t = if t.toNat = 0 then 1#8 else t :=
  ite_congr (propext BitVec.toNat_inj.symm) (fun _ => rfl) fun _ => rfl

/-- Settles O49: each payload decodes, is served, and its reply is laid out field by field. -/
theorem oneStepRequestsReply : Obligations.OneStepRequestsReply := by
  intro s hl
  refine ⟨?_, ?_, fun b u hu v hv => ?_, fun b stored hstored => ?_⟩
  · simp only [exec, execIdentify, unlessReset_runs hl.1]
    rw [takeRequest_frame (payload := []) (dec := decodeEmpty) _ (by decide) rfl hl]
    rfl
  · simp only [exec, execReadStatus, unlessReset_runs hl.1]
    rw [takeRequest_frame (payload := []) (dec := decodeEmpty) _ (by decide) rfl hl, statusPayload_eq]
    rfl
  · have hnamed : uplinkOfByte b = u := Fin.ext hu.symm
    subst hv
    simp only [exec, execReadUplink, unlessReset_runs hl.1]
    rw [takeRequest_frame (payload := [b]) (dec := decodeReadUplink) _ (by simp) rfl hl, hnamed, uplinkPayload, indications_eq,
      uplinkStateCode_eq]
    rfl
  · subst hstored
    simp only [exec, execConfigurePorts, unlessReset_runs hl.1]
    rw [takeRequest_frame (payload := [b]) (dec := decodeConfigurePorts) _ (by simp) rfl hl, clampTimeout_eq]
    rfl

/-! ### Barrier (R152, R153) -/

/-- The two low bits of a byte that are two choices, and 0 in the others. -/
theorem twoChoices_bits (a b : Bool) (o : Byte) (ho : o = byteOfNat ((if a then 1 else 0) + (if b then 2 else 0))) :
    o.getLsbD 0 = a ∧ o.getLsbD 1 = b ∧ o.extractLsb' 2 6 = 0#6 ∧ o.toNat < 4 := by
  subst ho
  revert a b
  decide

theorem decodeBarrier_encode (f : BarrierFields) : decodeBarrier
    (bytes32 f.uplinks ++ [byteOfNat ((if f.sweeps then 1 else 0) + (if f.retracts then 2 else 0))] ++ bytes16 f.timeout) = some f := by
  obtain ⟨hsweeps, hretracts, hreserved, -⟩ := twoChoices_bits f.sweeps f.retracts _ rfl
  simp only [bytes32, bytes16, List.cons_append, List.nil_append, decodeBarrier, hreserved, if_true, hsweeps, hretracts, be32_bytes,
    be16_bytes]

/-- The frame of a Barrier, taken while the interface listens. -/
theorem exec_barrier (f : BarrierFields) {s : State} (hl : Listens s) :
    exec (.barrier (encodeBarrier f)) s = .next (whenReady (takeBarrier f) (fed 9 s)) := by
  simp only [exec, execBarrier, unlessReset_runs hl.1, encodeBarrier]
  rw [takeRequest_frame _ (by simp [bytes32, bytes16]) (decodeBarrier_encode f) hl]
  rfl

theorem barrierTime_eq (t : BitVec 16) : barrierTime t = (if t.toNat = 0 then 1 else t.toNat) * 1000 :=
  congrArg (· * 1000) (ite_congr (propext BitVec.toNat_inj.symm) (fun _ => rfl) fun _ => rfl)

section Taken
variable {f : BarrierFields} {s : State} {b : BarrierTest} (hb : b = { uplinks := f.uplinks, sweeps := f.sweeps, retracts := f.retracts })
include hb

/-- A Barrier that is taken loads its timer, and then has its test evaluated. -/
theorem takeBarrier_eq : takeBarrier f s = barrierCheck (serving (.barrier b)
    { s with mgmt := { s.mgmt with barrierTimer := .running ((if f.timeout.toNat = 0 then 1 else f.timeout.toNat) * 1000) } }) := by
  rw [takeBarrier, barrierTime_eq, hb]
  rfl

theorem takeBarrier_holds (h : testHolds b s) : takeBarrier f s =
    replied .ok [0#8, 0#8, 0#8, 0#8, 0#8] { s with mgmt := { s.mgmt with barrierTimer := .stopped } } := by
  have htest := (barrierHolds_iff b s).mpr h
  rw [takeBarrier_eq hb, barrierCheck_waiting rfl]
  exact (if_pos htest).trans (barrierReply_ok htest)

theorem takeBarrier_waits (h : ¬ testHolds b s) : takeBarrier f s = serving (.barrier b)
    { s with mgmt := { s.mgmt with barrierTimer := .running ((if f.timeout.toNat = 0 then 1 else f.timeout.toNat) * 1000) } } := by
  rw [takeBarrier_eq hb, barrierCheck_waiting rfl]
  exact if_neg fun htest => h ((barrierHolds_iff b s).mp htest)

end Taken

/-- What remains of a Barrier's test, as its reply reports it (R171). -/
theorem barrierReply_remaining (status : ReplyStatus) (b : BarrierTest) (s : State) :
    ∃ (left : UplinkSet) (o : Byte),
      (∀ u : Fin 32, left.getLsbD u.val = true ↔ b.uplinks.getLsbD u.val = true ∧ jobFor s u) ∧
      (o.getLsbD 0 = true ↔ b.sweeps = true ∧ sweepBusy s) ∧
      (o.getLsbD 1 = true ↔ b.retracts = true ∧ ¬ (s.lp0.retracts = [] ∧ s.lp1.retracts = [])) ∧ o.toNat < 4 ∧
      barrierReply status b s = replied status (bytes32 left ++ [o]) { s with mgmt := { s.mgmt with barrierTimer := .stopped } } := by
  obtain ⟨hsweeps, hretracts, -, hlt⟩ := twoChoices_bits (b.sweeps && s.walk.sweeping)
    (b.retracts && !(s.lp0.retracts.isEmpty && s.lp1.retracts.isEmpty)) _ rfl
  refine ⟨b.uplinks &&& s.walk.uplinks, _, fun u => ?_, ?_, ?_, hlt, rfl⟩
  · rw [BitVec.getLsbD_and, Bool.and_eq_true, getLsbD_walkUplinks]
  · rw [hsweeps, Bool.and_eq_true, walkSweeping_iff]
  · rw [hretracts, Bool.and_eq_true, Bool.not_eq_true', ← Bool.not_eq_true, noRetracts_iff]

theorem exec_barrierTimerExpiry {b : BarrierTest} {s : State} (hrun : Runs s) (h : s.mgmt.iface = .serving (.barrier b))
    (htimer : s.mgmt.barrierTimer ≠ .stopped) : exec .barrierTimerExpiry s = .next (barrierReply .timeout b s) := by
  simp only [exec, execBarrierTimerExpiry, unlessReset_runs hrun, h, if_neg htimer]

/-- Settles O37: the fate of a taken Barrier is its test's (`takeBarrier_eq`), and the expiry reports what remains of it. -/
theorem barrierWaitsForItsTest : Obligations.BarrierWaitsForItsTest := by
  refine ⟨fun f s hl b hb => ?_, fun b s hrun h htimer => ?_⟩
  · rw [exec_barrier f hl]
    refine ⟨fun hready => ?_, fun hready hholds => ?_, fun hready hholds => ?_⟩
    · exact congrArg _ (if_neg (show ¬ s.table.ready = true by simp [hready]))
    · exact congrArg _ ((if_pos hready).trans (takeBarrier_holds hb hholds))
    · exact congrArg _ ((if_pos hready).trans (takeBarrier_waits hb hholds))
  · obtain ⟨left, o, hleft, hsweeps, hretracts, hlt, hreply⟩ := barrierReply_remaining .timeout b s
    exact ⟨left, o, hleft, hsweeps, hretracts, hlt, (exec_barrierTimerExpiry hrun h htimer).trans (congrArg _ hreply)⟩

end Sys2Proof.Proofs
end

section
/-! PROOFS. The granted accesses that only read: Read Group's reply (O27) and the Range Survey (O31). -/
namespace Sys2Proof.Proofs
open Sys2Proof.Machine Sys2Proof.Safety Sys2Proof.Claims

/-! ### Read Group (R149) -/

theorem exec_readGranted {g : Nat} {s : State} (hrun : Runs s) (hgrant : s.grantee = some .mgmt)
    (h : s.mgmt.iface = .serving (.group (.read g))) : exec (.readGroup .granted) s = .next (readAccess g (granted .mgmt s)) := by
  simp only [exec, execReadGroup, unlessReset_runs hrun, h, access_granted hgrant]

theorem groupPayload_eq (r : Group) : groupPayload r = stateAndGen r.state r.gen := by
  unfold groupPayload
  cases r.state <;> rfl

theorem modeByte_eq (m : Mode) : byteOfNat (modeCode m) = if m = .hold then 0x01#8 else 0x00#8 := by cases m <;> rfl

/-- The byte of a group's copies, one bit a port. -/
theorem copyIndications_eq (held0 held1 : Bool) : byteOfNat ((if held0 then 1 else 0) + (if held1 then 2 else 0)) =
    (if held0 then 0x01#8 else 0x00#8) ||| (if held1 then 0x02#8 else 0x00#8) := by
  cases held0 <;> cases held1 <;> rfl

/-- Read Group's payload field by field, for the copies that the two ports hold. -/
theorem readGroupPayload_eq (g : Nat) (r : Group) (S : UplinkSet) (held0 held1 : Bool) : readGroupPayload g r S held0 held1 =
    bytes16 (BitVec.ofNat 16 g) ++ stateAndGen r.state r.gen ++
      [if r.mode = .hold then 0x01#8 else 0x00#8, BitVec.ofNat 8 r.floor,
        if r.state = .active then (if held0 then 0x01#8 else 0x00#8) ||| (if held1 then 0x02#8 else 0x00#8) else 0x00#8] ++
      encodeMembers r.members ++ translate r.members r.map ++
      (if r.state = .active then translate r.members (place (if r.mode = .hold then .keep else .full) r.members r.floor r.map S)
       else List.replicate 64 255#8) := by
  rw [← groupPayload_eq, ← modeByte_eq, ← effectiveMap_eq, ← copyIndications_eq, readGroupPayload, groupPayload]
  by_cases hactive : r.state = .active
  · simp only [hactive, beq_self_eq_true, Bool.true_and, if_true, List.append_assoc, List.cons_append, List.nil_append]
    rfl
  · simp only [beq_eq_false_iff_ne.mpr hactive, if_neg hactive, Bool.false_and, Bool.false_eq_true, if_false, List.append_assoc,
      List.cons_append, List.nil_append]
    rfl

/-- Settles O27: the granted access answers the payload of the group it finds. -/
theorem readGroupReportsWithoutChange : Obligations.ReadGroupReportsWithoutChange := by
  refine ⟨translatesByMember, fun g s hrun h hgrant r hr held hheld => ?_⟩
  have hholds : ∀ p : Port, held p = p.holdsCopy g := fun p =>
    Bool.eq_iff_iff.mpr ((hheld p).trans (holdsCopy_iff p g).symm)
  subst hr
  rw [exec_readGranted hrun hgrant h, hholds, hholds, ← readGroupPayload_eq]
  rfl

/-! ### Range Survey (R150, R151) -/

/-- A Range Survey frame, taken while the interface listens. -/
theorem exec_rangeSurvey {first count : Nat} {s : State} (hfirst : first < 65536) (hcount : count < 65536) (hl : Listens s) :
    exec (.rangeSurvey (encodeRange first count)) s = .next (whenReady (fun s =>
      if rangeRefused first count then formReply .range [] s
      else serving (.survey { next := first, left := count, active := 0, retiring := 0, free := 0, firstFree := none
                              digest := 0#32 }) s) (fed 6 s)) := by
  have hlen : (bytes16 (BitVec.ofNat 16 first) ++ bytes16 (BitVec.ofNat 16 count)).length = 4 := rfl
  simp only [exec, execRangeSurvey, unlessReset_runs hl.1, encodeRange]
  rw [takeRequest_frame _ (by rw [hlen]; decide) (decodeRange_encode hfirst hcount) hl]
  rfl

theorem exec_rangeSurveyAccess {v : Survey} {s : State} (hrun : Runs s) (h : s.mgmt.iface = .serving (.survey v))
    (hgrant : s.grantee = some .mgmt) : exec .rangeSurveyAccess s = .next (surveyAccess v (granted .mgmt s)) := by
  simp only [exec, execRangeSurveyAccess, unlessReset_runs hrun, h, access_granted hgrant]

theorem groupDigest_eq (g : Nat) (r : Group) : groupDigest g r = BitVec.ofNat 32 (digestWords g r) := by
  have hwords : (r.members.zipIdx.map fun e => memberWords e.2 e.1).sum =
      (r.members.zipIdx.map fun e => e.2 * 2 ^ 24 + e.1.uplink.val * 65536 + roleCode e.1.role * 256 + e.1.weight.val).sum +
        (r.members.zipIdx.flatMap fun e =>
          e.1.terms.map fun t => e.2 * 2 ^ 24 + 2 ^ 23 + t.watched.val * 65536 + wantCode t.want).sum := by
    rw [List.flatMap_def, List.sum_flatten, List.map_map, ← List.sum_map_add]
    rfl
  rw [groupDigest, hwords, ← Nat.add_assoc]
  rfl

/-- The survey after it reads a group, field by field. -/
theorem survey_read_eq (r : Group) (v : Survey) : v.read r =
    { next := v.next + 1, left := v.left - 1
      active := if r.state = .active then v.active + 1 else v.active
      retiring := if r.state = .retiring then v.retiring + 1 else v.retiring
      free := if r.state = .free then v.free + 1 else v.free
      firstFree := if r.state = .free ∧ v.firstFree = none then some v.next else v.firstFree
      digest := if r.state = .active then v.digest + BitVec.ofNat 32 (digestWords v.next r) else v.digest } := by
  unfold Survey.read
  cases h : r.state with
  | active => simp [groupDigest_eq]
  | retiring => simp
  | free => simp [Option.isNone_iff_eq_none]

theorem surveyPayload_eq (w : Survey) : surveyPayload w =
    bytes16 (BitVec.ofNat 16 w.active) ++ bytes16 (BitVec.ofNat 16 w.retiring) ++ bytes16 (BitVec.ofNat 16 w.free) ++
      bytes16 (match w.firstFree with
        | none => 65535#16
        | some g => BitVec.ofNat 16 g) ++ bytes32 w.digest := by
  rw [surveyPayload]
  cases w.firstFree <;> rfl

/-- Settles O31: the frame's checks in order, then each access reads one group and the last one forms the reply. -/
theorem rangeSurveyReadsOneGroupAnAccess : Obligations.RangeSurveyReadsOneGroupAnAccess := by
  refine ⟨fun first count s hfirst hcount hl => ?_, fun v s hrun h hgrant r hr w hw => ?_⟩
  · rw [exec_rangeSurvey hfirst hcount hl]
    refine ⟨fun hready => ?_, fun hready hrefused => ?_, fun hready hcount hlast => ?_⟩
    · exact congrArg _ (if_neg (show ¬ s.table.ready = true by simp [hready]))
    · exact congrArg _ ((if_pos hready).trans (if_pos ((rangeRefused_iff first count).mpr hrefused)))
    · exact congrArg _ ((if_pos hready).trans (if_neg fun hrefused => by have := (rangeRefused_iff first count).mp hrefused; omega))
  · have hread : v.read ((granted .mgmt s).group v.next) = w := by rw [hw, hr]; exact survey_read_eq _ v
    have hleft : w.left = v.left - 1 := by rw [hw]
    rw [exec_rangeSurveyAccess hrun h hgrant, surveyAccess, hread]
    exact ⟨fun hlast => congrArg _ ((if_pos (by omega)).trans (congrArg (replied .ok · _) (surveyPayload_eq w))),
      fun hmore => congrArg _ (if_neg (by omega))⟩

end Sys2Proof.Proofs
end

section
/-! PROOFS. The frames of the group requests: what a frame carries is what is decoded, and the checks before the access (R137 to R142;
O23). -/
namespace Sys2Proof.Proofs
open Sys2Proof.Machine Sys2Proof.Safety Sys2Proof.Claims

/-! ### Member lists round-trip (R171) -/

theorem decodeTerm_encode (t : Term) : decodeTerm (encodeTerm t) = t := by
  obtain ⟨watched, want⟩ := t
  cases want <;> exact (by decide : ∀ u : Fin 32, decodeTerm (encodeTerm ⟨u, _⟩) = ⟨u, _⟩) watched

theorem decodeMode_encode (m : Mode) : decodeMode (byteOfNat (modeCode m)) = some m := by cases m <;> rfl

/-- The fields of an attributes byte: the number of terms, the role, the weight. -/
theorem attributes_fields (w : Fin 16) (r : Role) {n : Nat} (hn : n < 4) (a : Byte)
    (ha : a = byteOfNat (w.val + 16 * roleCode r + 32 * n)) :
    a.toNat / 32 % 4 = n ∧ (if a.getLsbD 4 then Role.standby else .primary) = r ∧ a.toNat % 16 = w.val := by
  subst ha
  revert w n
  cases r <;> decide

theorem uplinkOfByte_encode (u : Fin 32) : uplinkOfByte (byteOfNat u.val) = u := by
  decide +revert

theorem takeTerms_encode (ts : List Term) (bs : List Byte) : takeTerms ts.length (ts.map encodeTerm ++ bs) = some (ts, bs) := by
  induction ts with
  | nil => rfl
  | cons t ts ih =>
    simp only [List.length_cons, List.map_cons, List.cons_append, takeTerms, ih, Option.map_some, decodeTerm_encode]

theorem takeMembers_encode (ms : List Member) (h : ∀ m ∈ ms, m.terms.length < 4) (bs : List Byte) :
    takeMembers ms.length (ms.flatMap encodeMember ++ bs) = some (ms, bs) := by
  induction ms with
  | nil => rfl
  | cons m ms ih =>
    obtain ⟨hterms, hrole, hweight⟩ := attributes_fields m.weight m.role (h m List.mem_cons_self) _ rfl
    rw [List.flatMap_cons, encodeMember, List.append_assoc]
    simp only [List.length_cons, List.cons_append, takeMembers, hterms, takeTerms_encode, hrole, hweight, uplinkOfByte_encode,
      ih fun m' hm' => h m' (List.mem_cons_of_mem m hm'), Option.map_some, Fin.eta]

theorem decodeMembers_encode {ms : List Member} (h : Carried ms) : decodeMembers (encodeMembers ms) = some ms := by
  have htaken := takeMembers_encode ms h.2 []
  rw [List.append_nil] at htaken
  rw [encodeMembers, decodeMembers, byteOfNat, BitVec.toNat_ofNat, Nat.mod_eq_of_lt h.1, htaken]

theorem encodeMembers_length_le {ms : List Member} (h : Carried ms) : (encodeMembers ms).length ≤ 1276 := by
  have hbytes : ∀ ms : List Member, (∀ m ∈ ms, m.terms.length < 4) → (ms.flatMap encodeMember).length ≤ 5 * ms.length := by
    intro ms hterms
    induction ms with
    | nil => exact Nat.le_refl _
    | cons m ms ih =>
      have hm := hterms m List.mem_cons_self
      have htail := ih fun m' hm' => hterms m' (List.mem_cons_of_mem m hm')
      simp only [List.flatMap_cons, List.length_append, encodeMember, List.length_cons, List.length_map]
      omega
  have hlist := hbytes ms h.2
  have hcount := h.1
  simp only [encodeMembers, List.length_cons]
  omega

/-! ### Payloads round-trip (R171) -/

theorem be16_bytes16 {g : Nat} (h : g < 65536) :
    (be16 ((BitVec.ofNat 16 g).extractLsb' 8 8) ((BitVec.ofNat 16 g).extractLsb' 0 8)).toNat = g := by
  rw [be16_bytes, BitVec.toNat_ofNat, Nat.mod_eq_of_lt h]

theorem decodeInstall_encode {f : InstallFields} (hg : f.group < 65536) (h : Carried f.members) :
    decodeInstall (bytes16 (BitVec.ofNat 16 f.group) ++ [byteOfNat (modeCode f.mode), f.floor] ++ encodeMembers f.members) = some f := by
  simp only [bytes16, List.cons_append, List.nil_append, decodeInstall, decodeMode_encode, decodeMembers_encode h, be16_bytes16 hg]

theorem decodeModify_encode {f : ModifyFields} (hg : f.group < 65536) (h : Carried f.members) :
    decodeModify (bytes16 (BitVec.ofNat 16 f.group) ++ bytes32 f.expected ++ [byteOfNat (modeCode f.mode), f.floor] ++
      encodeMembers f.members) = some f := by
  simp only [bytes16, bytes32, List.cons_append, List.nil_append, decodeModify, decodeMode_encode, decodeMembers_encode h,
    be16_bytes16 hg, be32_bytes]

theorem decodeRetire_encode {g : Nat} (hg : g < 65536) (n : Generation) :
    decodeRetire (bytes16 (BitVec.ofNat 16 g) ++ bytes32 n) = some (g, n) := by
  simp only [bytes16, bytes32, List.cons_append, List.nil_append, decodeRetire, be16_bytes16 hg, be32_bytes]

theorem decodeReadGroup_encode {g : Nat} (hg : g < 65536) : decodeReadGroup (bytes16 (BitVec.ofNat 16 g)) = some g := by
  simp only [bytes16, decodeReadGroup, be16_bytes16 hg]

/-! ### The frames are taken (R134) -/

section Taken
variable {s : State} (hl : Listens s)
include hl

theorem exec_installFrame {f : InstallFields} (hg : f.group < 65536) (h : Carried f.members) :
    exec (.installGroup (.frame (encodeInstall f))) s =
      .next (presentGroupRequest f.group (some f.members) (.install f) (fed (encodeInstall f).length s)) := by
  have hlen := encodeMembers_length_le h
  simp only [exec, execInstallGroup, unlessReset_runs hl.1, encodeInstall, frameRest_length]
  rw [takeRequest_frame _ (by simp only [bytes16, List.length_append, List.length_cons, List.length_nil]; omega)
    (decodeInstall_encode hg h) hl]

theorem exec_modifyFrame {f : ModifyFields} (hg : f.group < 65536) (h : Carried f.members) :
    exec (.modifyGroup (.frame (encodeModify f))) s =
      .next (presentGroupRequest f.group (some f.members) (.modify f) (fed (encodeModify f).length s)) := by
  have hlen := encodeMembers_length_le h
  simp only [exec, execModifyGroup, unlessReset_runs hl.1, encodeModify, frameRest_length]
  rw [takeRequest_frame _ (by simp only [bytes16, bytes32, List.length_append, List.length_cons, List.length_nil]; omega)
    (decodeModify_encode hg h) hl]

theorem exec_retireFrame {g : Nat} (hg : g < 65536) (n : Generation) : exec (.retireGroup (.frame (encodeRetire g n))) s =
    .next (presentGroupRequest g none (.retire g n) (fed 8 s)) := by
  simp only [exec, execRetireGroup, unlessReset_runs hl.1, encodeRetire]
  rw [takeRequest_frame _ (by simp [bytes16, bytes32]) (decodeRetire_encode hg n) hl]
  rfl

theorem exec_readFrame {g : Nat} (hg : g < 65536) : exec (.readGroup (.frame (encodeReadGroup g))) s =
    .next (presentGroupRequest g none (.read g) (fed 4 s)) := by
  simp only [exec, execReadGroup, unlessReset_runs hl.1, encodeReadGroup]
  rw [takeRequest_frame _ (by simp [bytes16]) (decodeReadGroup_encode hg) hl]
  rfl

end Taken

/-! ### The checks of a group request (R137, R139 to R141) -/

theorem validMembers_iff (ms : List Member) : validMembers ms = true ↔ listValid ms := by
  simp only [validMembers, listValid, Bool.and_eq_true, decide_eq_true_eq, List.all_eq_true, bne_iff_ne, and_assoc]
  rfl

section Checks
variable {g : Nat} {members : Option (List Member)} {r : GroupRequest} {s : State}

theorem presentGroupRequest_notReady (h : s.table.ready = false) : presentGroupRequest g members r s = replied .notReady [] s :=
  if_neg (by simp [h])

theorem presentGroupRequest_range (h : s.table.ready = true) (hg : 4096 ≤ g) :
    presentGroupRequest g members r s = replied .range [] s := (if_pos h).trans (if_pos hg)

theorem presentGroupRequest_badRequest {ms : List Member} (h : s.table.ready = true) (hg : g < 4096) (hms : ¬ listValid ms) :
    presentGroupRequest g (some ms) r s = replied .badRequest [] s :=
  (if_pos h).trans ((if_neg (Nat.not_le.mpr hg)).trans (if_pos (by simpa using mt (validMembers_iff ms).mp hms)))

theorem presentGroupRequest_serving (h : s.table.ready = true) (hg : g < 4096) (hms : ∀ ms ∈ members, listValid ms) :
    presentGroupRequest g members r s = serving (.group r) s := by
  refine (if_pos h).trans ((if_neg (Nat.not_le.mpr hg)).trans (if_neg fun hany => ?_))
  obtain ⟨ms, hmem, hinvalid⟩ := (Option.any_eq_true _ _).mp hany
  exact absurd ((validMembers_iff ms).mpr (hms ms hmem)) (by simpa using hinvalid)

end Checks

/-- The outcomes of a request that carries a member list, in the order of its checks. -/
theorem presentGroupRequest_checks {c : Instr} {g n : Nat} {ms : List Member} {r : GroupRequest} {s : State}
    (h : exec c s = .next (presentGroupRequest g (some ms) r (fed n s))) :
    (s.table.ready = false → exec c s = .next (replied .notReady [] (fed n s))) ∧
      (s.table.ready = true → 4096 ≤ g → exec c s = .next (replied .range [] (fed n s))) ∧
      (s.table.ready = true → g < 4096 → ¬ listValid ms → exec c s = .next (replied .badRequest [] (fed n s))) ∧
      (s.table.ready = true → g < 4096 → listValid ms → exec c s = .next (serving (.group r) (fed n s))) := by
  rw [h]
  exact ⟨fun hready => congrArg _ (presentGroupRequest_notReady hready),
    fun hready hg => congrArg _ (presentGroupRequest_range hready hg),
    fun hready hg hms => congrArg _ (presentGroupRequest_badRequest hready hg hms),
    fun hready hg hms => congrArg _ (presentGroupRequest_serving hready hg fun ms' hms' => Option.some.inj hms' ▸ hms)⟩

/-- The outcomes of a request that names a group only. -/
theorem presentGroupRequest_named {c : Instr} {g n : Nat} {r : GroupRequest} {s : State}
    (h : exec c s = .next (presentGroupRequest g none r (fed n s))) :
    (s.table.ready = false → exec c s = .next (replied .notReady [] (fed n s))) ∧
      (s.table.ready = true → 4096 ≤ g → exec c s = .next (replied .range [] (fed n s))) ∧
      (s.table.ready = true → g < 4096 → exec c s = .next (serving (.group r) (fed n s))) := by
  rw [h]
  exact ⟨fun hready => congrArg _ (presentGroupRequest_notReady hready),
    fun hready hg => congrArg _ (presentGroupRequest_range hready hg),
    fun hready hg => congrArg _ (presentGroupRequest_serving hready hg nofun)⟩

/-- Settles O23: the fields come back from the frame's bytes, and the request is checked and then waits. -/
theorem groupRequestsAreChecked : Obligations.GroupRequestsAreChecked := by
  refine fun s hl => ⟨fun f hg hms => ⟨_, rfl, presentGroupRequest_checks (exec_installFrame hl hg hms)⟩,
    fun f hg hms => ⟨_, rfl, presentGroupRequest_checks (exec_modifyFrame hl hg hms)⟩, fun g n hg => ?_⟩
  obtain ⟨hretireInit, hretireRange, hretire⟩ := presentGroupRequest_named (exec_retireFrame hl hg n)
  obtain ⟨hreadInit, hreadRange, hread⟩ := presentGroupRequest_named (exec_readFrame hl hg)
  exact ⟨fun h => ⟨hretireInit h, hreadInit h⟩, fun h hlt => ⟨hretireRange h hlt, hreadRange h hlt⟩,
    fun h hlt => ⟨hretire h hlt, hread h hlt⟩⟩

end Sys2Proof.Proofs
end

section
/-! PROOFS. A recomputation of the settled set: its bits, the uplink jobs it queues, and the one an idle engine takes (R69, R71, R72,
R101, R102; O22). -/
namespace Sys2Proof.Proofs
open Sys2Proof.Machine Sys2Proof.Safety Sys2Proof.Claims

/-! ### The settled set (R101) -/

/-- Only an UP port cuts the settled set, by its acknowledged up-set. -/
theorem getLsbD_admits (p : Port) (u : Fin 32) :
    p.admits.getLsbD u.val = true ↔ (p.state = .up → p.ackUp.getLsbD u.val = true) := by
  by_cases hup : p.state = .up
  · rw [Port.admits, if_pos hup]
    exact ⟨fun h _ => h, fun h => h hup⟩
  · rw [admits_of_not_up hup, BitVec.getLsbD_allOnes, decide_eq_true u.isLt]
    exact ⟨fun _ h => absurd h hup, fun _ => rfl⟩

theorem settledOf_eq {live S : UplinkSet} {p0 p1 : Port}
    (h : ∀ u : Fin 32, S.getLsbD u.val = true ↔ live.getLsbD u.val = true ∧
      (p0.state = .up → p0.ackUp.getLsbD u.val = true) ∧ (p1.state = .up → p1.ackUp.getLsbD u.val = true)) :
    settledOf live p0 p1 = S := by
  refine BitVec.eq_of_getLsbD_eq fun n hn => Bool.eq_iff_iff.mpr ?_
  rw [h ⟨n, hn⟩, ← getLsbD_admits, ← getLsbD_admits, settledOf, BitVec.getLsbD_and, BitVec.getLsbD_and, Bool.and_eq_true,
    Bool.and_eq_true, and_assoc]

/-! ### The jobs queued (R69, R102) -/

/-- An uplink job is appended for each uplink that moved and has none waiting. -/
theorem queueJobs_eq (S old : UplinkSet) (q : List WaitingJob) : queueJobs (S ^^^ old) q =
    q ++ ((List.finRange 32).filter fun u =>
      (S.getLsbD u.val != old.getLsbD u.val) && !decide (WaitingJob.uplink u ∈ q)).map .uplink := by
  have hmoved : ∀ u : Fin 32, ((S ^^^ old).getLsbD u.val && !q.contains (.uplink u)) =
      ((S.getLsbD u.val != old.getLsbD u.val) && !decide (WaitingJob.uplink u ∈ q)) := fun u => by
    rw [BitVec.getLsbD_xor, List.contains_eq_mem]
  simp only [queueJobs, allUplinks, hmoved]

/-! ### The job taken (R71, R72) -/

/-- Uplink jobs with empty chains at the head of the queue end at once. -/
theorem startFrom_skips {chains : Vector (List Nat) 32} {done : List (Fin 32)} (h : ∀ v ∈ done, chains[v] = []) (q : List WaitingJob) :
    startFrom chains (done.map .uplink ++ q) = startFrom chains q := by
  induction done with
  | nil => rfl
  | cons v done ih =>
    exact (startFrom_uplink_nil _ (h v List.mem_cons_self)).trans (ih fun w hw => h w (List.mem_cons_of_mem v hw))

/-- An idle engine takes from a queue that is not empty. -/
theorem startIfIdle_takes {s : State} (hjob : s.walk.job = none) (hqueue : s.walk.queue ≠ []) : startIfIdle s = takeNextJob s := by
  rcases startIfIdle_cases s with ⟨-, -, h⟩ | ⟨hkept, -⟩
  · exact h
  · exact absurd hkept (by simp [hjob, hqueue])

/-- An engine that finds no job becomes IDLE, with the flag. -/
theorem takeNextJob_none {s : State} (h : startFrom s.table.chains s.walk.queue = (none, [])) :
    takeNextJob s = barrierCheck (flagged 0x20#8 { s with walk := { queue := [], job := none } }) := by
  rw [takeNextJob, h]
  rfl

section Idle
variable {s : State} {moved : List (Fin 32)} (hwalk : s.walk = { queue := moved.map .uplink, job := none })
include hwalk

theorem startIfIdle_first {done rest : List (Fin 32)} {u : Fin 32} {g : Nat} {tail : List Nat} (hmoved : moved = done ++ u :: rest)
    (hdone : ∀ v ∈ done, s.table.chains[v] = []) (hu : s.table.chains[u] = g :: tail) :
    startIfIdle s = barrierCheck { s with walk := { queue := rest.map .uplink, job := some (.uplink u (some g)) } } := by
  subst hmoved
  have hstart : startFrom s.table.chains s.walk.queue = (some (.uplink u (some g)), rest.map .uplink) := by
    rw [hwalk, List.map_append, List.map_cons, startFrom_skips hdone, startFrom_uplink_cons _ hu]
  rw [startIfIdle_takes (by rw [hwalk]) (by simp [hwalk]), takeNextJob_started hstart]

theorem startIfIdle_allEmpty (hmoved : moved ≠ []) (hempty : ∀ v ∈ moved, s.table.chains[v] = []) :
    startIfIdle s = barrierCheck (flagged 0x20#8 { s with walk := { queue := [], job := none } }) := by
  have hstart : startFrom s.table.chains s.walk.queue = (none, []) := by
    rw [hwalk, ← List.append_nil (moved.map _), startFrom_skips hempty]
    rfl
  rw [startIfIdle_takes (by rw [hwalk]) (by simpa [hwalk] using hmoved), takeNextJob_none hstart]

end Idle

/-- Settles O22: the settled set is found bit by bit, its jobs are queued, and an idle engine takes the first with a chain. -/
theorem settledSetChangesQueueJobs : Obligations.SettledSetChangesQueueJobs := by
  intro s S hS moved hmoved
  have hresettle : resettle s =
      startIfIdle { s with settled := S, walk := { s.walk with queue := s.walk.queue ++ moved.map .uplink } } := by
    rw [resettle, settledOf_eq hS, queueJobs_eq, ← hmoved]
  refine ⟨fun hjob => hresettle.trans (startIfIdle_walking hjob), fun hjob hqueue => ?_⟩
  have hwalk : ∀ m : List (Fin 32), ({ s.walk with queue := s.walk.queue ++ m.map .uplink } : Walk) =
      { queue := m.map .uplink, job := none } := fun m => by
    rw [← hjob, hqueue, List.nil_append]
  have hself : ({ queue := [], job := none } : Walk) = s.walk := by rw [← hqueue, ← hjob]
  rw [hwalk] at hresettle
  refine hresettle ▸ ⟨fun hnone => ?_, fun done u rest hsplit hdone g tail hu => ?_, fun hsome hempty => ?_⟩
  · subst hnone
    rw [List.map_nil, hself]
    rcases startIfIdle_cases { s with settled := S } with ⟨-, hwaiting, -⟩ | ⟨-, hsame⟩
    · exact absurd hqueue hwaiting
    · exact hsame
  · exact startIfIdle_first rfl hsplit hdone hu
  · refine Eq.trans (startIfIdle_allEmpty rfl hsome hempty) ?_
    rw [hself]

end Sys2Proof.Proofs
end

section
/-! PROOFS. The command of a management frame, and the frame in progress on the link (R133, R134, R170; O60's first half). -/
namespace Sys2Proof.Proofs
open Sys2Proof.Machine Sys2Proof.Safety Sys2Proof.Claims

/-! ### The command of a frame (R133, R134, R170) -/

/-- A command that is the well-formed request frame of these bytes. -/
def IsRequestOf (k : Byte) (rest : List Byte) (c : Instr) : Prop := c.wellFormed = true ∧ requestBytes c = some (k, rest)

/-- A kind that two rows share gives the row of the choice decoded; a malformed frame is of either. -/
theorem isRequestOf_chosen {α : Type} {dec : List Byte → Option α} {choice : α → Bool} {k : Byte} {rest : List Byte} {yes no : Instr}
    (hyes : yes.wellFormed = rowOf dec choice rest ∧ requestBytes yes = some (k, rest))
    (hno : no.wellFormed = rowOf dec (fun a => !choice a) rest ∧ requestBytes no = some (k, rest)) :
    IsRequestOf k rest (if ((payloadOf rest).bind dec).any choice then yes else no) := by
  rw [rowOf] at hyes hno
  cases h : (payloadOf rest).bind dec with
  | none =>
    rw [h] at hno
    exact hno
  | some a =>
    rw [h] at hyes hno
    rw [Option.any_some]
    cases hchoice : choice a with
    | true => exact ⟨hyes.1.trans hchoice, hyes.2⟩
    | false => exact ⟨hno.1.trans (congrArg not hchoice), hno.2⟩

theorem requestInstr_setAdmin (rest : List Byte) : IsRequestOf 0x12#8 rest (requestInstr 0x12#8 rest) := by
  have hinstr : requestInstr 0x12#8 rest =
      if ((payloadOf rest).bind decodeSetAdmin).any (·.1) then .setAdminSet rest else .setAdminClear rest := by
    rcases h : (payloadOf rest).bind decodeSetAdmin with _ | ⟨_ | _, us⟩ <;> simp [requestInstr, h]
  exact hinstr ▸ isRequestOf_chosen ⟨rfl, rfl⟩ ⟨rfl, rfl⟩

theorem requestInstr_configureScan (rest : List Byte) : IsRequestOf 0x13#8 rest (requestInstr 0x13#8 rest) := by
  have hinstr : requestInstr 0x13#8 rest =
      if ((payloadOf rest).bind decodeConfigureScan).any (·.1) then .configureScanEnable rest else .configureScanDisable rest := by
    rcases h : (payloadOf rest).bind decodeConfigureScan with _ | ⟨_ | _, period⟩ <;> simp [requestInstr, h]
  exact hinstr ▸ isRequestOf_chosen ⟨rfl, rfl⟩ ⟨rfl, rfl⟩

theorem requestInstr_setEnables (rest : List Byte) : IsRequestOf 0x41#8 rest (requestInstr 0x41#8 rest) := by
  have hinstr : requestInstr 0x41#8 rest =
      if ((payloadOf rest).bind decodeSetEnables).any (·.1) then .setEventEnablesSet rest else .setEventEnablesClear rest := by
    rcases h : (payloadOf rest).bind decodeSetEnables with _ | ⟨_ | _, flags⟩ <;> simp [requestInstr, h]
  exact hinstr ▸ isRequestOf_chosen ⟨rfl, rfl⟩ ⟨rfl, rfl⟩

theorem requestInstr_readCounters (rest : List Byte) : IsRequestOf 0x42#8 rest (requestInstr 0x42#8 rest) := by
  have hinstr : requestInstr 0x42#8 rest =
      if ((payloadOf rest).bind decodeReadCounters).any id then .readCountersClear rest else .readCounters rest := by
    rcases h : (payloadOf rest).bind decodeReadCounters with _ | (_ | _) <;> simp [requestInstr, h]
  exact hinstr ▸ isRequestOf_chosen ⟨rfl, rfl⟩ ⟨rfl, rfl⟩

/-- A kind that is none of the part's is an unknown one. -/
theorem requestInstr_unknown {k : Byte} (h : k ∉ requestKinds) (rest : List Byte) : requestInstr k rest = .unknownRequestKind k rest := by
  simp only [requestKinds, List.mem_cons, List.not_mem_nil, or_false, not_or] at h
  obtain ⟨h01, h02, h10, h11, h12, h13, h14, h20, h21, h22, h23, h24, h25, h30, h40, h41, h42, h5A⟩ := h
  rw [requestInstr, if_neg h01, if_neg h02, if_neg h10, if_neg h11, if_neg h12, if_neg h13, if_neg h14, if_neg h20, if_neg h21,
    if_neg h22, if_neg h23, if_neg h24, if_neg h25, if_neg h30, if_neg h40, if_neg h41, if_neg h42, if_neg h5A]

/-- Each kind has its command; a kind with two rows gives the row of its decoded choice. -/
theorem isRequestOf_requestInstr {k : Byte} (hk : k ≠ 0xA5#8) (rest : List Byte) : IsRequestOf k rest (requestInstr k rest) := by
  by_cases hknown : k ∈ requestKinds
  · simp only [requestKinds, List.mem_cons, List.not_mem_nil, or_false] at hknown
    rcases hknown with rfl | rfl | rfl | rfl | rfl | rfl | rfl | rfl | rfl | rfl | rfl | rfl | rfl | rfl | rfl | rfl | rfl | rfl
    any_goals exact ⟨rfl, rfl⟩
    · exact requestInstr_setAdmin rest
    · exact requestInstr_configureScan rest
    · exact requestInstr_setEnables rest
    · exact requestInstr_readCounters rest
  · rw [requestInstr_unknown hknown]
    exact ⟨by simp [Instr.wellFormed, isUnknownRequestKind, Config.readCode, hk, hknown], rfl⟩

theorem frameInstr_request {k : Byte} (hk : k ≠ 0xA5#8) (idle : Bool) (rest : List Byte) :
    frameInstr idle (k :: rest) = some (if idle then requestInstr k rest else .requestDropped (k :: rest)) := by
  rw [frameInstr, if_neg (show ¬ k = Config.readCode from hk)]
  cases idle <;> rfl

theorem isRequestFrame_cons {k : Byte} (hk : k ≠ 0xA5#8) (rest : List Byte) : isRequestFrame (k :: rest) = true := by
  simpa [isRequestFrame, Config.readCode] using hk

/-! ### The frame in progress (R133) -/

/-- The frame of these bytes, its lead byte clocked with RDY as given. -/
def frameOf (bytes : List Byte) (rdy : Bool) : Link :=
  { selected := true, cut := false, found := (bytes.head? == some Config.readCode) && rdy, clocked := bytes }

theorem frameOf_clock (bytes : List Byte) (b : Byte) (rdy : Bool) : (frameOf bytes rdy).clock b rdy = frameOf (bytes ++ [b]) rdy := by
  cases bytes <;> rfl

theorem clocking_frameOf (bytes : List Byte) {done : List Byte} {s : State} (h : s.link = frameOf done s.rdy) :
    clocking bytes s = { s with link := frameOf (done ++ bytes) s.rdy } := by
  induction bytes generalizing done s with
  | nil =>
    rw [List.append_nil, ← h]
    rfl
  | cons b bytes ih =>
    have hclock : linkEvent (.byte b) s = { s with link := frameOf (done ++ [b]) s.rdy } := by
      have hopen : (s.link.selected && !s.link.cut) = true := by rw [h]; rfl
      simp only [linkEvent, clockLink, if_pos hopen]
      rw [h, frameOf_clock]
    have hrest := ih (s := { s with link := frameOf (done ++ [b]) s.rdy }) rfl
    rw [List.append_assoc] at hrest
    exact (congrArg (clocking bytes) hclock).trans hrest

/-- A frame that is cut takes no byte. -/
theorem clocking_cut {s : State} (h : s.link.cut = true) (bytes : List Byte) : clocking bytes s = s := by
  induction bytes with
  | nil => rfl
  | cons b bytes ih =>
    have hclock : linkEvent (.byte b) s = s := by simp [linkEvent, clockLink, h]
    exact (congrArg (clocking bytes) hclock).trans ih

/-- A frame that is cut, or ends while a reset is held, is discarded. -/
theorem deselect_discards {s : State} (h : s.link.cut = true ∨ s.mrst = true ∨ s.porst = true) :
    linkEvent .deselect s = { s with link := noFrame } := by
  have hdiscard : (!s.link.selected || s.link.cut || s.frameless) = true := by
    rw [Bool.or_eq_true, Bool.or_eq_true, State.frameless, Bool.or_eq_true, or_assoc]
    exact .inr h
  simp only [linkEvent, deselectLink, if_pos hdiscard]
  rfl

/-- A frame's lead byte finds the reply that waits. -/
theorem readsNothing_frameOf (bytes : List Byte) (rdy : Bool) : ((frameOf bytes rdy).readsNothing && rdy) = false := by
  rw [Link.readsNothing, frameOf]
  cases bytes.head? == some Config.readCode <;> cases rdy <;> rfl

/-- A whole frame puts its command on the front of the queue. -/
theorem deselect_frameOf {s : State} {bytes : List Byte} (hlink : s.link = frameOf bytes s.rdy) (hmrst : s.mrst = false)
    (hporst : s.porst = false) : linkEvent .deselect s =
      { s with link := noFrame, pending := (frameInstr (decide (s.mgmt.iface = .idle)) bytes).toList ++ s.pending } := by
  have hwhole : ¬ (!s.link.selected || s.link.cut || s.frameless) = true := by
    simp [hlink, frameOf, State.frameless, hmrst, hporst]
  have hended : ¬ (s.link.readsNothing && s.rdy) = true := by
    rw [hlink, readsNothing_frameOf]
    exact Bool.false_ne_true
  have hclocked : s.link.clocked = bytes := by rw [hlink]; rfl
  simp only [linkEvent, deselectLink, if_neg hwhole]
  refine (if_neg hended).trans ?_
  simp only [hclocked, beq_eq_decide]
  cases frameInstr (decide (s.mgmt.iface = .idle)) bytes <;> rfl

section Selected
variable {s : State} (hopen : s.link.selected = false)
include hopen

theorem select_eq : linkEvent .select s = { s with link := { noFrame with selected := true, cut := s.mrst || s.porst } } :=
  if_neg (by simp [hopen])

/-- A frame that begins while a reset is held is discarded. -/
theorem frame_inReset (bytes : List Byte) (h : s.mrst = true ∨ s.porst = true) :
    linkEvent .deselect (clocking bytes (linkEvent .select s)) = { s with link := noFrame } := by
  have hcut : (s.mrst || s.porst) = true := by rwa [Bool.or_eq_true]
  rw [select_eq hopen, clocking_cut hcut, deselect_discards (.inl hcut)]

theorem frame_whole (bytes : List Byte) (hmrst : s.mrst = false) (hporst : s.porst = false) :
    linkEvent .deselect (clocking bytes (linkEvent .select s)) =
      { s with link := noFrame, pending := (frameInstr (decide (s.mgmt.iface = .idle)) bytes).toList ++ s.pending } := by
  have hbegun : linkEvent .select s = { s with link := frameOf [] s.rdy } := by
    rw [select_eq hopen, hmrst, hporst]
    rfl
  rw [hbegun, clocking_frameOf bytes (done := []) rfl]
  exact deselect_frameOf rfl hmrst hporst

end Selected

end Sys2Proof.Proofs
end

section
/-! PROOFS. The receiver of a lane: the command of a message, the bytes between two delimiters, lock gained and lost (R168, R169; O60's second half). -/
namespace Sys2Proof.Proofs
open Sys2Proof.Machine Sys2Proof.Safety Sys2Proof.Claims

/-! ### The command of a lane message (R169) -/

theorem decodeLane_resolve_iff (bytes : List Byte) (x : BitVec 16) :
    decodeLane bytes = .resolve x ↔ ∃ h l, bytes = [0x01#8, h, l] ∧ x = be16 h l := by
  refine ⟨fun hx => ?_, ?_⟩
  · unfold decodeLane at hx
    split at hx
    · cases hx
    · split_ifs at hx with h1 h2 h3
      all_goals split at hx
      all_goals cases hx
      exact ⟨_, _, by rw [h1], rfl⟩
  · rintro ⟨h, l, rfl, rfl⟩
    rfl

theorem decodeLane_retractDone_iff (bytes : List Byte) (x : BitVec 16) :
    decodeLane bytes = .retractDone x ↔ ∃ h l, bytes = [0x02#8, h, l] ∧ x = be16 h l := by
  refine ⟨fun hx => ?_, ?_⟩
  · unfold decodeLane at hx
    split at hx
    · cases hx
    · split_ifs at hx with h1 h2 h3
      all_goals split at hx
      all_goals cases hx
      exact ⟨_, _, by rw [h2], rfl⟩
  · rintro ⟨h, l, rfl, rfl⟩
    rfl

theorem decodeLane_vectorAck_iff (bytes : List Byte) (n : Byte) : decodeLane bytes = .vectorAck n ↔ bytes = [0x03#8, n] := by
  refine ⟨fun hx => ?_, ?_⟩
  · unfold decodeLane at hx
    split at hx
    · cases hx
    · split_ifs at hx with h1 h2 h3
      all_goals split at hx
      all_goals cases hx
      rw [h3]
  · rintro rfl
    rfl

/-- A message makes one command of its port, well formed, whichever it is; it is never a loss of lock. -/
theorem laneInstr_command (p : PortId) (bytes : List Byte) :
    (laneInstr p bytes).wellFormed = true ∧ portOf (laneInstr p bytes) = some p ∧ laneInstr p bytes ≠ .laneLockLost p ∧
      (∀ x, laneInstr p bytes = .resolve p x ↔ decodeLane bytes = .resolve x) ∧
      (∀ x, laneInstr p bytes = .retractDone p x ↔ decodeLane bytes = .retractDone x) ∧
      ∀ n, laneInstr p bytes = .vectorAck p n ↔ decodeLane bytes = .vectorAck n := by
  rw [laneInstr]
  cases h : decodeLane bytes <;> simp [Instr.wellFormed, portOf, h]

/-! ### The locked receiver (R168) -/

/-- The window after a character: whether each of the last 16 was undecodable, the newest first. -/
def windowAfter (r : LaneReceiver) (c : LaneChar) : List Bool := ((c == .undecodable) :: r.recent).take 16

section Locked
variable {p : PortId} {r : LaneReceiver} {c : LaneChar} (hlocked : r.locked = true)
include hlocked

theorem receive_lost (h : c = .signalLost ∨ 4 ≤ (windowAfter r c).count true) :
    receive p r c = (LaneReceiver.start, [.laneLockLost p]) := by
  rw [receive, hlocked]
  exact if_pos h

theorem receive_kept (hsignal : c ≠ .signalLost) (h : (windowAfter r c).count true < 4) :
    receive p r c = receiveChar p { r with recent := windowAfter r c } c := by
  rw [receive, if_neg (by simp [hlocked])]
  exact if_neg (not_or.mpr ⟨hsignal, Nat.not_le.mpr h⟩)

end Locked

/-- A character that decodes does not add to the window's count. -/
theorem window_count_le {r : LaneReceiver} {c : LaneChar} (hc : c ≠ .undecodable) : (windowAfter r c).count true ≤
    r.recent.count true := by
  calc (windowAfter r c).count true
      ≤ ((c == .undecodable) :: r.recent).count true := (List.take_sublist _ _).count_le _
    _ = r.recent.count true := by rw [beq_eq_false_iff_ne.mpr hc, List.count_cons_of_ne (by decide)]

@[simp] theorem receiveAll_cons (p : PortId) (r : LaneReceiver) (c : LaneChar) (cs : List LaneChar) :
    receiveAll p r (c :: cs) = (receive p r c).2 ++ receiveAll p (receive p r c).1 cs := rfl

/-- The bytes up to a closing delimiter end the message in progress. -/
theorem receiveAll_data (p : PortId) {r : LaneReceiver} {done : List Byte} (bytes : List Byte) (hlocked : r.locked = true)
    (hmessage : r.message = some done) (hcount : r.recent.count true < 4) :
    receiveAll p r (bytes.map .data ++ [.closing]) = [laneInstr p (done ++ bytes)] := by
  induction bytes generalizing r done with
  | nil =>
    have hkept := receive_kept (p := p) (c := .closing) hlocked (by decide) (Nat.lt_of_le_of_lt (window_count_le (by decide)) hcount)
    simp only [List.map_nil, List.nil_append, receiveAll_cons, hkept, receiveChar, hmessage, endMessage, List.append_nil]
    rfl
  | cons b bytes ih =>
    have hwindow := Nat.lt_of_le_of_lt (window_count_le (r := r) (c := .data b) (by simp)) hcount
    have htail := ih (r := { r with recent := windowAfter r (.data b), message := some (done ++ [b]) }) hlocked rfl hwindow
    simp only [List.map_cons, List.cons_append, receiveAll_cons, receive_kept hlocked (by simp) hwindow, receiveChar, hmessage,
      Option.map_some, htail, List.nil_append, List.append_assoc]

/-- The bytes between two delimiters are one message. -/
theorem receiveAll_message (p : PortId) {r : LaneReceiver} (bytes : List Byte) (hlocked : r.locked = true) (hmessage : r.message = none)
    (hcount : r.recent.count true < 4) : receiveAll p r (.opening :: bytes.map .data ++ [.closing]) = [laneInstr p bytes] := by
  have hwindow := Nat.lt_of_le_of_lt (window_count_le (r := r) (c := .opening) (by decide)) hcount
  have htail := receiveAll_data p (r := { r with recent := windowAfter r .opening, message := some [] }) bytes hlocked rfl hwindow
  simp only [List.cons_append, receiveAll_cons, receive_kept hlocked (by simp) hwindow, receiveChar, hmessage, endMessage, List.nil_append]
  exact htail

/-! ### Lock gained (R168) -/

/-- No 32 consecutive idle characters. -/
def NoLockRun (cs : List LaneChar) : Prop := ∀ before after, cs ≠ before ++ List.replicate 32 .idle ++ after

theorem NoLockRun.of_append {pre cs : List LaneChar} (h : NoLockRun (pre ++ cs)) : NoLockRun cs := fun before after hcs =>
  h (pre ++ before) after (by rw [hcs, List.append_assoc, List.append_assoc, List.append_assoc])

/-- A receiver that the characters to come, behind the idle ones it counts, give no lock. -/
def NeverLocks (r : LaneReceiver) (cs : List LaneChar) : Prop :=
  r.locked = false ∧ NoLockRun (List.replicate r.idles .idle ++ cs)

theorem NeverLocks.idles_lt {r : LaneReceiver} {n : Nat} {cs : List LaneChar} (h : NeverLocks r (List.replicate n .idle ++ cs)) :
    r.idles + n < 32 := by
  refine Nat.not_le.mp fun hle => ?_
  refine h.2 (List.replicate (r.idles + n - 32) .idle) cs ?_
  rw [← List.append_assoc, List.replicate_append_replicate, List.replicate_append_replicate, Nat.sub_add_cancel hle]

theorem receive_unlocked (p : PortId) {r : LaneReceiver} (h : r.locked = false) (c : LaneChar) :
    receive p r c = receiveUnlocked p r c := if_pos (by simp [h])

/-- Such a receiver takes a character without a word, and stays one. -/
theorem NeverLocks.step {r : LaneReceiver} {c : LaneChar} {cs : List LaneChar} (h : NeverLocks r (c :: cs)) (p : PortId) :
    (receive p r c).2 = [] ∧ NeverLocks (receive p r c).1 cs := by
  rw [receive_unlocked p h.1]
  by_cases hc : c = .idle
  · subst hc
    have hlt : r.idles + 1 < 32 := NeverLocks.idles_lt (n := 1) h
    have hcounted : receiveUnlocked p r .idle = ({ r with idles := r.idles + 1 }, []) := if_neg (Nat.not_le.mpr hlt)
    rw [hcounted]
    refine ⟨rfl, h.1, ?_⟩
    have hrun := h.2
    rwa [List.append_cons, ← List.replicate_succ'] at hrun
  · have hbroken : receiveUnlocked p r c = ({ r with idles := 0 }, []) := by
      cases c with
      | idle => exact absurd rfl hc
      | _ => rfl
    rw [hbroken]
    refine ⟨rfl, h.1, NoLockRun.of_append (pre := List.replicate r.idles .idle ++ [c]) ?_⟩
    have hrun := h.2
    rwa [List.append_cons] at hrun

theorem receiveAll_neverLocks {r : LaneReceiver} {cs : List LaneChar} (h : NeverLocks r cs) (p : PortId) : receiveAll p r cs = [] := by
  induction cs generalizing r with
  | nil => rfl
  | cons c cs ih =>
    obtain ⟨hquiet, htail⟩ := h.step p
    rw [receiveAll_cons, hquiet, ih htail]
    rfl

/-- The receiver that has just gained lock. -/
def LaneReceiver.fresh : LaneReceiver := { locked := true, idles := 0, recent := [], message := none }

/-- The idle character that makes 32 gains lock. -/
theorem receiveAll_locks (p : PortId) {r : LaneReceiver} (hlocked : r.locked = false) {n : Nat} (h : r.idles + (n + 1) = 32)
    (cs : List LaneChar) :
    receiveAll p r (List.replicate (n + 1) .idle ++ cs) = .laneLockGained p :: receiveAll p LaneReceiver.fresh cs := by
  induction n generalizing r with
  | zero =>
    have hgained : receiveUnlocked p r .idle = (LaneReceiver.fresh, [.laneLockGained p]) := if_pos (by omega)
    simp only [List.replicate_succ, List.replicate_zero, List.cons_append, List.nil_append, receiveAll_cons, receive_unlocked p hlocked,
      hgained]
  | succ n ih =>
    have hcounted : receiveUnlocked p r .idle = ({ r with idles := r.idles + 1 }, []) := if_neg (by omega)
    rw [List.replicate_succ, List.cons_append, receiveAll_cons, receive_unlocked p hlocked, hcounted,
      ih (r := { r with idles := r.idles + 1 }) hlocked (by dsimp only; omega)]
    rfl

/-- Lock is gained with the thirty-second consecutive idle character, and at no other. -/
theorem receiveAll_gains {r : LaneReceiver} {cs : List LaneChar} (h : NeverLocks r (cs ++ List.replicate 31 .idle)) (p : PortId) :
    receiveAll p r (cs ++ List.replicate 32 .idle) = [.laneLockGained p] := by
  induction cs generalizing r with
  | nil =>
    have hidles : r.idles + 31 < 32 := NeverLocks.idles_lt (n := 31) (cs := []) (by rwa [List.append_nil])
    have hgained := receiveAll_locks p h.1 (n := 31) (by omega) []
    rwa [List.append_nil] at hgained
  | cons c cs ih =>
    obtain ⟨hquiet, htail⟩ := h.step p
    rw [List.cons_append, receiveAll_cons, hquiet, ih htail]
    rfl

/-! ### Lock lost (R168) -/

theorem count_undecodable (cs : List LaneChar) : (cs.map (· == .undecodable)).count true = cs.count .undecodable := by
  rw [List.count_eq_countP, List.countP_map, List.count_eq_countP]
  exact List.countP_congr fun c _ => by simp

/-- A locked receiver that has seen these characters since, the newest first. -/
def HasSeen (r : LaneReceiver) (seen : List LaneChar) : Prop :=
  r.locked = true ∧ r.recent = (seen.take 16).map (· == .undecodable)

theorem HasSeen.windowAfter_eq {r : LaneReceiver} {seen : List LaneChar} (h : HasSeen r seen) (c : LaneChar) :
    windowAfter r c = ((c :: seen).take 16).map (· == .undecodable) := by
  rw [windowAfter, h.2, ← List.map_cons (f := (· == LaneChar.undecodable)), ← List.map_take, List.take_cons (by decide),
    List.take_take, List.take_cons (by decide)]
  rfl

theorem receiveChar_keepsLock {p : PortId} {r : LaneReceiver} (hlocked : r.locked = true) (c : LaneChar) :
    .laneLockLost p ∉ (receiveChar p r c).2 ∧ (receiveChar p r c).1.locked = true ∧ (receiveChar p r c).1.recent = r.recent := by
  have hend : .laneLockLost p ∉ endMessage p r.message := by
    cases r.message with
    | none => exact List.not_mem_nil
    | some bytes => exact fun hmem => (laneInstr_command p bytes).2.2.1 (List.mem_singleton.mp hmem).symm
  cases c with
  | idle | opening | closing => exact ⟨hend, hlocked, rfl⟩
  | data | undecodable | signalLost => exact ⟨List.not_mem_nil, hlocked, rfl⟩

/-- Lock is lost when the window of some characters holds 4 undecodable ones. -/
theorem laneLockLost_mem_iff {p : PortId} {r : LaneReceiver} {seen cs : List LaneChar} (h : HasSeen r seen)
    (hsignal : .signalLost ∉ cs) (hseen : (seen.take 16).count .undecodable < 4) :
    .laneLockLost p ∈ receiveAll p r cs ↔
      ∃ done rest, cs = done ++ rest ∧ 4 ≤ ((done.reverse ++ seen).take 16).count .undecodable := by
  induction cs generalizing r seen with
  | nil =>
    refine ⟨nofun, ?_⟩
    rintro ⟨done, rest, hsplit, hcount⟩
    obtain ⟨rfl, -⟩ := List.nil_eq_append_iff.mp hsplit
    exact absurd hcount (Nat.not_le.mpr hseen)
  | cons c cs ih =>
    have hwindow : (windowAfter r c).count true = ((c :: seen).take 16).count .undecodable := by rw [h.windowAfter_eq, count_undecodable]
    rw [receiveAll_cons]
    by_cases hlost : 4 ≤ ((c :: seen).take 16).count .undecodable
    · rw [receive_lost h.1 (.inr (hwindow ▸ hlost))]
      exact ⟨fun _ => ⟨[c], cs, rfl, hlost⟩, fun _ => List.mem_cons_self⟩
    · have hkept := receive_kept (p := p) h.1 (fun hc => hsignal (hc ▸ List.mem_cons_self)) (hwindow ▸ Nat.not_le.mp hlost)
      obtain ⟨hquiet, hlocked, hrecent⟩ := receiveChar_keepsLock (p := p) (r := { r with recent := windowAfter r c }) h.1 c
      rw [hkept, List.mem_append, or_iff_right hquiet,
        ih ⟨hlocked, hrecent.trans (h.windowAfter_eq c)⟩ (fun hc => hsignal (List.mem_cons_of_mem c hc)) (Nat.not_le.mp hlost)]
      constructor
      · rintro ⟨done, rest, rfl, hcount⟩
        exact ⟨c :: done, rest, rfl, by simpa using hcount⟩
      · rintro ⟨done, rest, hsplit, hcount⟩
        cases done with
        | nil => exact absurd hcount (Nat.not_le.mpr hseen)
        | cons d done =>
          obtain ⟨rfl, rfl⟩ := List.cons_eq_cons.mp hsplit
          exact ⟨done, rest, rfl, by simpa using hcount⟩

/-- A window of a prefix is a run of at most 16 characters. -/
theorem window_iff_run (cs : List LaneChar) :
    (∃ done rest, cs = done ++ rest ∧ 4 ≤ ((done.reverse ++ []).take 16).count LaneChar.undecodable) ↔
      ∃ before run after, cs = before ++ run ++ after ∧ run.length ≤ 16 ∧ 4 ≤ run.count .undecodable := by
  simp only [List.append_nil]
  constructor
  · rintro ⟨done, rest, rfl, hcount⟩
    rw [List.take_reverse, List.count_reverse] at hcount
    exact ⟨done.take (done.length - 16), done.drop (done.length - 16), rest, by rw [List.take_append_drop],
      by rw [List.length_drop]; omega, hcount⟩
  · rintro ⟨before, run, after, rfl, hlen, hcount⟩
    refine ⟨before ++ run, after, rfl, ?_⟩
    rw [List.reverse_append, List.take_append, List.take_of_length_le (by rwa [List.length_reverse]), List.count_append,
      List.count_reverse]
    exact Nat.le_add_right_of_le hcount

theorem laneLockLost_after_gain {p : PortId} {cs : List LaneChar} (hsignal : .signalLost ∉ cs) :
    .laneLockLost p ∈ receiveAll p LaneReceiver.start (List.replicate 32 .idle ++ cs) ↔
      ∃ before run after, cs = before ++ run ++ after ∧ run.length ≤ 16 ∧ 4 ≤ run.count .undecodable := by
  rw [receiveAll_locks p rfl (n := 31) rfl, List.mem_cons, or_iff_right nofun, ← window_iff_run]
  exact laneLockLost_mem_iff (seen := []) ⟨rfl, rfl⟩ hsignal (by decide)

/-- The undecodable character that fills the window's count loses lock. -/
theorem window_undecodable {r : LaneReceiver} (h : 3 ≤ (r.recent.take 15).count true) :
    4 ≤ (windowAfter r .undecodable).count true := by
  have hwindow : windowAfter r .undecodable = true :: r.recent.take 15 := rfl
  rw [hwindow, List.count_cons_self]
  exact Nat.succ_le_succ h

/-! ### O60 -/

/-- A reset that begins cuts the frame in progress (R133). -/
theorem link_of_reset {c : Instr} {s t : State} (h : exec c s = .next t) (hc : c = .mrstNAssert ∨ (c = .porstNAssert ∧ Runs s)) :
    t.link = cutFrame s.link := by
  rcases hc with rfl | ⟨rfl, hrun⟩
  · cases h
    rfl
  · have hreset : exec .porstNAssert s = .next { s.fullReset with porst := true } :=
      congrArg _ (if_neg (show ¬ s.porst = true by simp [show s.porst = false from hrun]))
    cases hreset.symm.trans h
    rfl

/-- Settles O60: the command of a frame, the frame in progress, the command of a message, and the receiver's lock, each by its lemma. -/
theorem receivedBytesMakeOneCommand : Obligations.ReceivedBytesMakeOneCommand := by
  refine ⟨fun _ => rfl, fun _ _ => rfl, fun k rest hk => ⟨frameInstr_request hk false rest, isRequestFrame_cons hk rest, _,
      frameInstr_request hk true rest, isRequestOf_requestInstr hk rest⟩,
    fun s bytes hopen t ht => ?_, fun c s t h hc => link_of_reset h hc,
    fun s hcut bytes => ⟨clocking_cut hcut bytes, deselect_discards (.inl hcut)⟩,
    fun s _ hheld => deselect_discards (.inr hheld), fun p bytes => ?_, fun p cs => ?_, fun p r c hlocked hc => ?_⟩
  · subst ht
    exact ⟨frame_inReset hopen bytes, frame_whole hopen bytes⟩
  · obtain ⟨hwf, hport, -, hresolve, hdone, hack⟩ := laneInstr_command p bytes
    exact ⟨hwf, hport, fun x => (hresolve x).trans (decodeLane_resolve_iff bytes x),
      fun x => (hdone x).trans (decodeLane_retractDone_iff bytes x), fun n => (hack n).trans (decodeLane_vectorAck_iff bytes n),
      fun r hlocked hmessage hcount => receiveAll_message p bytes hlocked hmessage hcount⟩
  · exact ⟨fun hno => receiveAll_neverLocks (r := LaneReceiver.start) ⟨rfl, hno⟩ p,
      fun hno => receiveAll_gains (r := LaneReceiver.start) ⟨rfl, hno⟩ p, laneLockLost_after_gain⟩
  · refine receive_lost hlocked (hc.imp_right ?_)
    rintro ⟨rfl, hcount⟩
    exact window_undecodable hcount

end Sys2Proof.Proofs
end

section
/-! PROOFS. The requests of the event flags and of the counters: Read Events, Set Event Enables and ATTN (O50), Read Counters (O51). -/
namespace Sys2Proof.Proofs
open Sys2Proof.Machine Sys2Proof.Safety Sys2Proof.Claims

/-! ### The flags and ATTN (R158 to R160) -/

/-- ATTN is asserted by some flag that is both set and enabled (R159). -/
theorem attn_iff (s : State) : s.attn = true ↔ ∃ b < 8, s.mgmt.flags.getLsbD b = true ∧ s.mgmt.enables.getLsbD b = true := by
  rw [State.attn, bne_iff_ne, ne_eq, BitVec.eq_of_getLsbD_eq_iff]
  simp

/-- What Read Events leaves: the flags that are set and not enabled (R160). -/
theorem getLsbD_untaken (f e : Byte) {b : Nat} (hb : b < 8) :
    (f &&& ~~~(f &&& e)).getLsbD b = (f.getLsbD b && !e.getLsbD b) := by
  simp only [BitVec.getLsbD_and, BitVec.getLsbD_not, decide_eq_true hb, Bool.true_and]
  cases f.getLsbD b <;> rfl

/-- With the flags both set and enabled cleared, none is left to assert ATTN (R160). -/
theorem takeEvents_attn (s : State) : (takeEvents s).attn = false := by
  rw [← Bool.not_eq_true, attn_iff]
  rintro ⟨b, hb, hflag, henable⟩
  have hleft := (getLsbD_untaken s.mgmt.flags s.mgmt.enables hb).symm.trans hflag
  have henabled : s.mgmt.enables.getLsbD b = true := henable
  simp [henabled] at hleft

theorem decodeSetEnables_encode (set : Bool) (f : Byte) : decodeSetEnables [byteOfBool set, f] = some (set, f) := by
  simp only [decodeSetEnables, decodeChoice_byteOfBool, Option.map_some]

section Listening
variable {s : State} (hl : Listens s)
include hl

theorem exec_readEvents : exec (.readEvents (frameRest [])) s = .next (takeEvents (fed 2 s)) := by
  simp only [exec, execReadEvents, unlessReset_runs hl.1]
  rw [takeRequest_frame (payload := []) (dec := decodeEmpty) _ (by decide) rfl hl]
  rfl

theorem exec_setEventEnablesSet (f : Byte) :
    exec (.setEventEnablesSet (encodeSetEnables true f)) s = .next (setEnables (s.mgmt.enables ||| f) (fed 4 s)) := by
  simp only [exec, execSetEventEnablesSet, unlessReset_runs hl.1, encodeSetEnables]
  rw [takeOwnRequest_frame _ (by simp) (decodeSetEnables_encode true f) rfl hl]
  rfl

theorem exec_setEventEnablesClear (f : Byte) :
    exec (.setEventEnablesClear (encodeSetEnables false f)) s = .next (setEnables (s.mgmt.enables &&& ~~~f) (fed 4 s)) := by
  simp only [exec, execSetEventEnablesClear, unlessReset_runs hl.1, encodeSetEnables]
  rw [takeOwnRequest_frame _ (by simp) (decodeSetEnables_encode false f) rfl hl]
  rfl

end Listening

/-- Settles O50: the bits of what Read Events takes and leaves and of the enables as stored, and ATTN by `attn_iff`. -/
theorem eventsAreCollectedWhenEnabled : Obligations.EventsAreCollectedWhenEnabled := by
  refine ⟨fun s hl => ⟨fun taken htaken => ?_, fun f e he => ?_, fun f e he => ?_⟩, attn_iff⟩
  · have hbits : taken = s.mgmt.flags &&& s.mgmt.enables :=
      BitVec.eq_of_getLsbD_eq fun b hb => by rw [htaken b hb, BitVec.getLsbD_and]
    subst hbits
    exact ⟨_, fun b hb => getLsbD_untaken _ _ hb, _, exec_readEvents hl, takeEvents_attn _, rfl⟩
  · have hbits : e = s.mgmt.enables ||| f := BitVec.eq_of_getLsbD_eq fun b hb => by rw [he b hb, BitVec.getLsbD_or]
    rw [hbits]
    exact exec_setEventEnablesSet hl f
  · have hbits : e = s.mgmt.enables &&& ~~~f :=
      BitVec.eq_of_getLsbD_eq fun b hb => by rw [he b hb, BitVec.getLsbD_and, BitVec.getLsbD_not, decide_eq_true hb, Bool.true_and]
    rw [hbits]
    exact exec_setEventEnablesClear hl f

/-! ### Read Counters (R163, R172) -/

theorem portCounterBytes_length (c : PortCounters) : (portCounterBytes c).length = 20 := rfl

/-- Two counters of 2 bytes for each of 32 uplinks, five of 4 bytes for each port, and two of 4 bytes (R172). -/
theorem countersPayload_length (s : State) : (countersPayload s).length = 176 := by
  have huplinks (u : Fin 32) : (bytes16 s.uplinks[u].darkEntries ++ bytes16 s.uplinks[u].dampEntries).length = 4 := rfl
  simp only [countersPayload, List.length_append, List.length_flatMap, huplinks, portCounterBytes_length]
  rfl

theorem decodeReadCounters_encode (clear : Bool) : decodeReadCounters [byteOfBool clear] = some clear := decodeChoice_byteOfBool clear

section Listening
variable {s : State} (hl : Listens s)
include hl

theorem exec_readCounters :
    exec (.readCounters (encodeReadCounters false)) s = .next (replied .ok (countersPayload s) (fed 3 s)) := by
  simp only [exec, execReadCounters, unlessReset_runs hl.1, encodeReadCounters]
  rw [takeOwnRequest_frame _ (by simp) (decodeReadCounters_encode false) rfl hl]
  rfl

theorem exec_readCountersClear : exec (.readCountersClear (encodeReadCounters true)) s =
    .next (replied .ok (countersPayload s) (clearCounters (fed 3 s))) := by
  simp only [exec, execReadCountersClear, unlessReset_runs hl.1, encodeReadCounters]
  rw [takeOwnRequest_frame _ (by simp) (decodeReadCounters_encode true) rfl hl]
  rfl

end Listening

/-- Settles O51: the payload is the counters' in their order, and the clear option's state is `clearCounters`. -/
theorem countersAreReadTogether : Obligations.CountersAreReadTogether := by
  intro s hl ports payload hports hpayload
  have heq : payload = countersPayload s := by rw [hpayload, hports, hports]; rfl
  rw [heq]
  refine ⟨countersPayload_length s, exec_readCounters hl, _, fun u => ?_, exec_readCountersClear hl⟩
  exact Vector.getElem_ofFn u.isLt

end Sys2Proof.Proofs
end

section
/-! PROOFS. No counter falls and no event flag is cleared by the operations the commands share (R156, R157, R162): `Latches`, kept record by
record, port by port, and by the meanings of each block. -/
namespace Sys2Proof.Proofs
open Sys2Proof.Machine Sys2Proof.Safety Sys2Proof.Claims

/-! ### Counters that do not fall -/

/-- No counter of an uplink falls. -/
structure UplinkRises (v w : Uplink) : Prop where
  dark : v.darkEntries ≤ w.darkEntries
  damp : v.dampEntries ≤ w.dampEntries

/-- No counter of a port falls. -/
structure PortRises (c d : PortCounters) : Prop where
  answersOk : c.answersOk ≤ d.answersOk
  answersNoRoute : c.answersNoRoute ≤ d.answersNoRoute
  answersBusy : c.answersBusy ≤ d.answersBusy
  retractsSent : c.retractsSent ≤ d.retractsSent
  faults : c.faults ≤ d.faults

/-- None of the 76 counters falls. -/
structure CountersRise (s t : State) : Prop where
  uplink : ∀ u : Fin 32, UplinkRises s.uplinks[u] t.uplinks[u]
  port : ∀ i, PortRises (s.port i).counters (t.port i).counters
  walkVisits : s.mgmt.walkVisits ≤ t.mgmt.walkVisits
  droppedRequests : s.mgmt.droppedRequests ≤ t.mgmt.droppedRequests

/-- No event flag is cleared. -/
def FlagsStay (s t : State) : Prop := ∀ b, s.mgmt.flags.getLsbD b = true → t.mgmt.flags.getLsbD b = true

/-- The counters and the flags latch (R156, R157, R162). -/
structure Latches (s t : State) : Prop where
  counters : CountersRise s t
  flags : FlagsStay s t

/-- Every use of this meaning lets the counters and the flags latch. -/
def KeepsLatched (f : State → State) : Prop := ∀ s, Latches s (f s)

/-- A counter never falls, as `le_satInc` says of its value. -/
theorem satInc_rises {w : Nat} (c : BitVec w) : c ≤ satInc c := le_satInc c

theorem satInc_rises_if {w : Nat} (p : Prop) [Decidable p] (c : BitVec w) : c ≤ if p then satInc c else c := by
  split
  · exact satInc_rises c
  · exact BitVec.le_refl c

/-! ### One uplink (R11 to R16, R19) -/

theorem UplinkRises.of_same {v w : Uplink} (hdark : w.darkEntries = v.darkEntries) (hdamp : w.dampEntries = v.dampEntries) :
    UplinkRises v w := ⟨BitVec.le_of_eq hdark.symm, BitVec.le_of_eq hdamp.symm⟩

theorem UplinkRises.refl (v : Uplink) : UplinkRises v v := .of_same rfl rfl

theorem UplinkRises.trans {u v w : Uplink} (h : UplinkRises u v) (h' : UplinkRises v w) : UplinkRises u w :=
  ⟨BitVec.le_trans h.dark h'.dark, BitVec.le_trans h.damp h'.damp⟩

theorem uplinkRises_enterLit (v : Uplink) : UplinkRises v v.enterLit := .of_same rfl rfl

theorem uplinkRises_enterDark (v : Uplink) : UplinkRises v v.enterDark := ⟨satInc_rises _, BitVec.le_refl _⟩

theorem uplinkRises_enterDamped (v : Uplink) : UplinkRises v v.enterDamped := ⟨BitVec.le_refl _, satInc_rises _⟩

theorem uplinkRises_enterReturn (v : Uplink) : UplinkRises v v.enterReturn := by
  unfold Uplink.enterReturn
  split <;> exact .of_same rfl rfl

theorem uplinkRises_enterByDarkness (v : Uplink) : UplinkRises v v.enterByDarkness := by
  unfold Uplink.enterByDarkness
  split
  · exact uplinkRises_enterDark v
  · exact uplinkRises_enterReturn v

theorem uplinkRises_takeOnset {enter : Uplink → Uplink} (henter : ∀ w, UplinkRises w (enter w)) (v : Uplink) :
    UplinkRises v (v.takeOnset enter) := by
  unfold Uplink.takeOnset
  split
  · exact henter v
  · split
    · exact uplinkRises_enterDamped v
    · refine .trans ?_ (henter _)
      exact .of_same rfl rfl

theorem uplinkRises_takeChange (v : Uplink) : UplinkRises v v.takeChange := by
  unfold Uplink.takeChange
  split
  · refine uplinkRises_takeOnset (fun w => ?_) v
    split
    · exact uplinkRises_enterDark w
    · exact .of_same rfl rfl
  · exact uplinkRises_enterLit v
  · exact uplinkRises_enterReturn v
  · exact uplinkRises_takeOnset uplinkRises_enterDark v
  · exact .refl v

theorem uplinkRises_reevaluate (v : Uplink) : UplinkRises v v.reevaluate := by
  unfold Uplink.reevaluate
  split
  · exact .refl v
  · refine .trans ?_ (uplinkRises_takeChange _)
    exact .of_same rfl rfl

/-- A record whose inputs, configuration or count have changed is evaluated again. -/
theorem UplinkRises.reevaluate {v w : Uplink} (h : UplinkRises v w) : UplinkRises v w.reevaluate := h.trans (uplinkRises_reevaluate w)

/-- No operation of Uplink Watch lowers a counter. -/
theorem UplinkMove.rises {v w : Uplink} (m : UplinkMove v w) : UplinkRises v w := by
  cases m with
  | stays => exact .refl v
  | line level =>
    unfold Uplink.setLine; split
    · exact .refl v
    · exact .reevaluate (.of_same rfl rfl)
  | code c =>
    unfold Uplink.setCode; split
    · exact .refl v
    · exact .reevaluate (.of_same rfl rfl)
  | qualifyExpired =>
    unfold Uplink.qualifyExpired; split
    · exact uplinkRises_enterDark v
    · exact .refl v
  | restoreExpired =>
    unfold Uplink.restoreExpired; split
    · exact uplinkRises_enterLit v
    · exact .refl v
  | holdExpired =>
    unfold Uplink.holdExpired; split
    · exact uplinkRises_enterByDarkness v
    · exact .refl v
  | windowExpired => unfold Uplink.windowExpired; split <;> exact .of_same rfl rfl
  | adminClear => unfold Uplink.adminClear; split <;> exact .of_same rfl rfl
  | adminSet =>
    unfold Uplink.adminSet; split
    · exact uplinkRises_enterByDarkness v
    · exact .refl v
  | configured c =>
    have hstored : UplinkRises v (if c.flapLimit = v.config.flapLimit then { v with config := c }
        else { v with config := c, onset := 0, window := .stopped }) := by
      split <;> exact .of_same rfl rfl
    simp only [Uplink.configure]
    split
    · exact hstored
    · exact hstored.reevaluate

/-! ### One port (R97, R107, R121) -/

theorem PortRises.refl (c : PortCounters) : PortRises c c := by constructor <;> exact BitVec.le_refl _

theorem PortRises.of_eq {c d : PortCounters} (h : d = c) : PortRises c d := h ▸ .refl c

theorem PortRises.trans {c d e : PortCounters} (h : PortRises c d) (h' : PortRises d e) : PortRises c e := by
  constructor
  · exact BitVec.le_trans h.answersOk h'.answersOk
  · exact BitVec.le_trans h.answersNoRoute h'.answersNoRoute
  · exact BitVec.le_trans h.answersBusy h'.answersBusy
  · exact BitVec.le_trans h.retractsSent h'.retractsSent
  · exact BitVec.le_trans h.faults h'.faults

theorem formVector_counters (live : UplinkSet) (timeout : Byte) (p : Port) : (p.formVector live timeout).counters = p.counters := by
  rw [formVector_eq]

theorem takeReport_counters (left live : UplinkSet) (timeout : Byte) (p : Port) :
    (p.takeReport left live timeout).counters = p.counters := by
  unfold Port.takeReport
  dsimp only
  split
  · split
    · exact formVector_counters ..
    · rfl
  · rfl

theorem acknowledge_counters (v : DownVector) (live : UplinkSet) (timeout : Byte) (p : Port) :
    (p.acknowledge v live timeout).counters = p.counters := by
  unfold Port.acknowledge
  dsimp only
  split
  · exact formVector_counters ..
  · split <;> rfl

theorem servedPort_counters (e : ResolveEntry) (r : Group) (S : UplinkSet) (p : Port) : (servedPort e r S p).counters = p.counters := by
  unfold servedPort
  dsimp only
  split <;> rfl

/-- A retract sent is counted, whatever its list has become before it (R121). -/
theorem portRises_sendRetract {p q : Port} (timeout : Byte) (h : q.counters = p.counters) :
    PortRises p.counters (q.sendRetract timeout).counters := by
  rw [← h]
  rcases q.sendRetract_cases timeout with ⟨e, -, -, hsent⟩ | ⟨-, hkept⟩
  · rw [hsent, Port.startAckTimer_eq]
    exact ⟨BitVec.le_refl _, BitVec.le_refl _, BitVec.le_refl _, satInc_rises _, BitVec.le_refl _⟩
  · rw [hkept]; exact .refl _

theorem portRises_takeChange (g : Nat) (n : Generation) (timeout : Byte) (p : Port) :
    PortRises p.counters (p.takeChange g n timeout).counters := by
  have hslot : (if p.holdsCopy g then p.emptySlot g else p).counters = p.counters := by split <;> rfl
  simp only [Port.takeChange]
  split
  · exact portRises_sendRetract timeout hslot
  · split
    · exact portRises_sendRetract timeout rfl
    · exact .refl _

theorem portRises_retractDone (timeout : Byte) (p : Port) : PortRises p.counters (retractDonePort timeout p).counters :=
  portRises_sendRetract (q := { p with retracts := p.retracts.eraseP (·.mark == .sent) }) timeout rfl

/-- Entry to FAULT is counted; the other counters are kept (R91, R107). -/
theorem portRises_resetPort (new : PortState) (p : Port) : PortRises p.counters (resetPort new p).counters := by
  unfold resetPort
  dsimp only
  split
  · exact ⟨BitVec.le_refl _, BitVec.le_refl _, BitVec.le_refl _, BitVec.le_refl _, satInc_rises _⟩
  · exact .refl _

/-- An Answer that leaves is counted by its status (R97). -/
theorem portRises_countAnswer (st : AnswerStatus) (c : PortCounters) : PortRises c (c.countAnswer st) := by
  rw [countAnswer_eq]
  exact ⟨satInc_rises_if _ _, satInc_rises_if _ _, satInc_rises_if _ _, BitVec.le_refl _, BitVec.le_refl _⟩

/-! ### Changes of a state -/

theorem CountersRise.trans {s m t : State} (h : CountersRise s m) (h' : CountersRise m t) : CountersRise s t :=
  ⟨fun u => (h.uplink u).trans (h'.uplink u), fun i => (h.port i).trans (h'.port i), BitVec.le_trans h.walkVisits h'.walkVisits,
    BitVec.le_trans h.droppedRequests h'.droppedRequests⟩

theorem FlagsStay.trans {s m t : State} (h : FlagsStay s m) (h' : FlagsStay m t) : FlagsStay s t := fun b => h' b ∘ h b

namespace Latches
variable {s m t r : State}

theorem trans (h : Latches s m) (h' : Latches m t) : Latches s t := ⟨h.counters.trans h'.counters, h.flags.trans h'.flags⟩

/-- A change outside the uplink records and the ports that lets the two device counters and the flags latch. -/
theorem of_mgmt (huplinks : t.uplinks = s.uplinks) (h0 : t.lp0 = s.lp0) (h1 : t.lp1 = s.lp1)
    (hvisits : s.mgmt.walkVisits ≤ t.mgmt.walkVisits) (hdropped : s.mgmt.droppedRequests ≤ t.mgmt.droppedRequests)
    (hflags : FlagsStay s t) : Latches s t := by
  refine ⟨⟨fun u => ?_, fun i => ?_, hvisits, hdropped⟩, hflags⟩
  · rw [huplinks]; exact .refl _
  · cases i
    · rw [State.port_lp0, State.port_lp0, h0]; exact .refl _
    · rw [State.port_lp1, State.port_lp1, h1]; exact .refl _

/-- A change outside the uplink records, the ports, the device counters and the flags. -/
theorem outside (huplinks : t.uplinks = s.uplinks := by rfl) (h0 : t.lp0 = s.lp0 := by rfl) (h1 : t.lp1 = s.lp1 := by rfl)
    (hvisits : t.mgmt.walkVisits = s.mgmt.walkVisits := by rfl)
    (hdropped : t.mgmt.droppedRequests = s.mgmt.droppedRequests := by rfl) (hflags : t.mgmt.flags = s.mgmt.flags := by rfl) :
    Latches s t :=
  .of_mgmt huplinks h0 h1 (BitVec.le_of_eq hvisits.symm) (BitVec.le_of_eq hdropped.symm) fun _ hb => hflags ▸ hb

theorem refl (s : State) : Latches s s := .outside

/-- A further change outside all of these. -/
theorem andThen (h : Latches s t) (huplinks : r.uplinks = t.uplinks := by rfl) (h0 : r.lp0 = t.lp0 := by rfl)
    (h1 : r.lp1 = t.lp1 := by rfl) (hvisits : r.mgmt.walkVisits = t.mgmt.walkVisits := by rfl)
    (hdropped : r.mgmt.droppedRequests = t.mgmt.droppedRequests := by rfl) (hflags : r.mgmt.flags = t.mgmt.flags := by rfl) :
    Latches s r := h.trans (.outside huplinks h0 h1 hvisits hdropped hflags)

/-- The same, before it. -/
theorem after (h : Latches m t) (huplinks : m.uplinks = s.uplinks := by rfl) (h0 : m.lp0 = s.lp0 := by rfl)
    (h1 : m.lp1 = s.lp1 := by rfl) (hvisits : m.mgmt.walkVisits = s.mgmt.walkVisits := by rfl)
    (hdropped : m.mgmt.droppedRequests = s.mgmt.droppedRequests := by rfl) (hflags : m.mgmt.flags = s.mgmt.flags := by rfl) :
    Latches s t := .trans (.outside huplinks h0 h1 hvisits hdropped hflags) h

theorem formReply (h : Latches s t) (status : ReplyStatus) (payload : List Byte) : Latches s (formReply status payload t) := h.andThen

theorem groupReply (h : Latches s t) (status : ReplyStatus) (g : Nat) : Latches s (groupReply status g t) := h.andThen

/-- Flags are set, and none is cleared (R156). -/
theorem raise (h : Latches s t) (f : Byte) : Latches s (t.raise f) := by
  refine h.trans (.of_mgmt rfl rfl rfl (BitVec.le_refl _) (BitVec.le_refl _) fun b hb => ?_)
  rw [State.raise_flags, BitVec.getLsbD_or, hb, Bool.true_or]

theorem raiseIf (h : Latches s t) (c : Bool) (f : Byte) : Latches s (t.raiseIf c f) := by
  cases c
  · exact h
  · exact h.raise f

/-- A change of the ports in which their counters do not fall. -/
theorem ports (h0 : PortRises s.lp0.counters t.lp0.counters) (h1 : PortRises s.lp1.counters t.lp1.counters)
    (huplinks : t.uplinks = s.uplinks := by rfl) (hmgmt : t.mgmt = s.mgmt := by rfl) : Latches s t := by
  refine ⟨⟨fun u => ?_, fun i => ?_, BitVec.le_of_eq (by rw [hmgmt]), BitVec.le_of_eq (by rw [hmgmt])⟩, fun _ hb => hmgmt ▸ hb⟩
  · rw [huplinks]; exact .refl _
  · cases i
    · exact h0
    · exact h1

theorem setPort {i : PortId} {p : Port} (h : PortRises (s.port i).counters p.counters) : Latches s (s.setPort i p) := by
  cases i
  · exact .ports h (.refl _)
  · exact .ports (.refl _) h

/-- The uplink records are replaced by ones whose counters have not fallen. -/
theorem setUplinks {us : Vector Uplink 32} (h : ∀ u : Fin 32, UplinkRises s.uplinks[u] us[u]) : Latches s { s with uplinks := us } :=
  ⟨⟨h, fun i => by cases i <;> exact .refl _, BitVec.le_refl _, BitVec.le_refl _⟩, fun _ => id⟩

end Latches

/-! ### The Walk Engine and the settled set (R85, R86, R102) -/

theorem keepsLatched_barrierCheck : KeepsLatched barrierCheck := fun s =>
  .outside (by simp) (by simp) (by simp) (mgmtKept_barrierCheck s).walkVisits (mgmtKept_barrierCheck s).droppedRequests (by simp)

theorem keepsLatched_takeNextJob : KeepsLatched takeNextJob := by
  intro s
  rw [takeNextJob]
  refine .trans (.raiseIf ?_ ..) (keepsLatched_barrierCheck _)
  exact .outside

theorem keepsLatched_endJob : KeepsLatched endJob := fun _ => (keepsLatched_takeNextJob _).after

theorem keepsLatched_startIfIdle : KeepsLatched startIfIdle := by
  intro s
  rcases startIfIdle_cases s with ⟨-, -, h⟩ | ⟨-, h⟩ <;> rw [h]
  · exact keepsLatched_takeNextJob s
  · exact .refl s

theorem keepsLatched_resettle : KeepsLatched resettle := fun _ => (keepsLatched_startIfIdle _).after

/-- A visit is counted (R86). -/
theorem keepsLatched_countVisit : KeepsLatched countVisit := fun _ =>
  .of_mgmt rfl rfl rfl (satInc_rises _) (BitVec.le_refl _) fun _ => id

/-! ### Uplink Watch (R18, R22) -/

theorem keepsLatched_reportLive (live : UplinkSet) : KeepsLatched (reportLive live) := by
  intro s
  unfold reportLive
  split
  · exact .refl s
  · refine .trans (.ports ?_ ?_) (keepsLatched_resettle _)
    · exact .of_eq (takeReport_counters ..)
    · exact .of_eq (takeReport_counters ..)

/-- A step of the uplink records, each by an operation of Uplink Watch. -/
theorem latches_watchStep {us : Vector Uplink 32} {s : State} (h : ∀ u : Fin 32, UplinkMove s.uplinks[u] us[u]) :
    Latches s (watchStep us s) :=
  .trans (.raiseIf (.setUplinks fun u => (h u).rises) ..) (keepsLatched_reportLive _ _)

theorem keepsLatched_stepUplink (u : Fin 32) {f : Uplink → Uplink} (hf : ∀ v, UplinkMove v (f v)) : KeepsLatched (stepUplink u f) := by
  intro s
  refine latches_watchStep fun v => ?_
  by_cases huv : u = v
  · subst huv; simpa using hf _
  · rw [Fin.getElem_fin, Fin.getElem_fin, Vector.getElem_set_ne _ _ (fun h => huv (Fin.ext h))]
    exact .stays

theorem keepsLatched_stepUplinks (us : UplinkSet) {f : Fin 32 → Uplink → Uplink} (hf : ∀ u v, UplinkMove v (f u v)) :
    KeepsLatched (stepUplinks us f) := by
  intro s
  refine latches_watchStep fun u => ?_
  rw [Fin.getElem_fin, Fin.getElem_fin, Vector.getElem_ofFn]
  split
  · exact hf u _
  · exact .stays

theorem keepsLatched_setCodes (us : UplinkSet) (c : Fin 32 → ScanCode) : KeepsLatched (stepUplinks us fun u => Uplink.setCode (c u)) :=
  keepsLatched_stepUplinks us fun u _ => .code (c u)

/-- A change of the scan receiver, flagged or not. -/
theorem latches_scan (s : State) (c : Scan) (flag : Bool) (f : Byte) : Latches s (State.raiseIf { s with scan := c } flag f) := by
  refine .raiseIf ?_ ..
  exact .outside

theorem keepsLatched_goodFrame (bits : BitVec 68) : KeepsLatched (goodFrame bits) := fun s =>
  (latches_scan s _ _ _).trans (keepsLatched_setCodes ..)

theorem keepsLatched_badFrame : KeepsLatched badFrame := fun s => latches_scan s _ _ _

theorem keepsLatched_enableScan (period : BitVec 16) : KeepsLatched (enableScan period) := by
  intro s
  unfold enableScan
  split
  · exact (keepsLatched_setCodes ..).after
  · exact .outside

theorem keepsLatched_disableScan (period : BitVec 16) : KeepsLatched (disableScan period) := by
  intro s
  unfold disableScan
  split
  · exact .outside
  · exact (latches_scan s _ _ _).trans (keepsLatched_setCodes ..)

/-! ### The Path Table and the visits (R35, R43, R44, R73, R80) -/

theorem keepsLatched_reportChange (g : Nat) (n : Generation) : KeepsLatched (reportChange g n) := fun _ =>
  .ports (portRises_takeChange ..) (portRises_takeChange ..)

/-- A record is written and the change reported. -/
theorem latches_writeReported (g h : Nat) (r : Group) (n : Generation) (s : State) : Latches s (reportChange h n (writeGroup g r s)) :=
  (keepsLatched_reportChange h n _).after

theorem keepsLatched_completeGroup (g : Nat) : KeepsLatched (completeGroup g) := by
  intro s
  rcases completeGroup_cases g s with ⟨-, -, h⟩ | ⟨-, h⟩ <;> rw [h]
  · refine .raise ?_ _
    exact .outside
  · exact .refl s

theorem keepsLatched_completeAll : KeepsLatched completeAll := by
  intro s
  rw [completeAll]
  refine .raiseIf ?_ ..
  exact .outside

theorem keepsLatched_installAccess (f : InstallFields) : KeepsLatched (installAccess f) := by
  intro s
  cases hs : (s.group f.group).state with
  | active => rw [installAccess_active hs]; exact (Latches.refl s).groupReply ..
  | retiring => rw [installAccess_retiring hs]; exact (Latches.refl s).groupReply ..
  | free => rw [installAccess_free hs]; exact (latches_writeReported ..).groupReply ..

theorem keepsLatched_modifyAccess (f : ModifyFields) : KeepsLatched (modifyAccess f) := by
  intro s
  cases href : refusalOf f.expected (s.group f.group) with
  | some status => rw [modifyAccess_refused href]; exact (Latches.refl s).groupReply ..
  | none =>
    cases hnew : sameContent (s.group f.group) (modifiedGroup f (s.group f.group) s.settled) with
    | true => rw [modifyAccess_unchanged href hnew]; exact (Latches.refl s).groupReply ..
    | false => rw [modifyAccess_changed href hnew]; exact (latches_writeReported ..).groupReply ..

theorem keepsLatched_retireAccess (g : Nat) (expected : Generation) : KeepsLatched (retireAccess g expected) := by
  intro s
  cases href : refusalOf expected (s.group g) with
  | some status => rw [retireAccess_refused href]; exact (Latches.refl s).groupReply ..
  | none =>
    rw [retireAccess_applied href]
    exact ((latches_writeReported ..).trans (keepsLatched_completeGroup g _)).groupReply ..

theorem keepsLatched_surveyAccess (v : Survey) : KeepsLatched (surveyAccess v) := by
  intro s
  unfold surveyAccess
  dsimp only
  split <;> exact .outside

theorem keepsLatched_rebalance (first count : Nat) : KeepsLatched (rebalance first count) := by
  intro s
  unfold rebalance
  split
  · exact .outside
  · split
    · exact .outside
    · exact (keepsLatched_startIfIdle _).after.formReply ..

theorem keepsLatched_persist (g : Nat) (map : BucketMap) : KeepsLatched (persist g map) := by
  intro s
  rcases persist_cases g map s with ⟨-, h⟩ | ⟨-, h⟩ <;> rw [h]
  · exact .refl s
  · exact (keepsLatched_reportChange ..).after

theorem keepsLatched_uplinkVisit (u : Fin 32) (g : Nat) : KeepsLatched (uplinkVisit u g) := by
  intro s
  have hvisit : Latches s (countVisit (persist g ((s.group g).effectiveMap s.settled) s)) :=
    (keepsLatched_persist ..).trans (keepsLatched_countVisit _)
  unfold uplinkVisit
  dsimp only
  split
  · exact hvisit.andThen
  · exact hvisit.trans (keepsLatched_endJob _)

theorem keepsLatched_sweepJobVisit (first count next : Nat) : KeepsLatched (sweepJobVisit first count next) := by
  intro s
  have hwrite : Latches s (sweepWrite next s) := by
    unfold sweepWrite
    split
    · exact keepsLatched_persist _ _ s
    · exact .refl s
  have hvisit : Latches s (countVisit (sweepWrite next s)) := hwrite.trans (keepsLatched_countVisit _)
  unfold sweepJobVisit
  dsimp only
  split
  · exact (hvisit.raise _).trans (keepsLatched_endJob _)
  · exact hvisit.andThen

/-! ### The ports (R90, R91, R99, R107, R125) -/

theorem keepsLatched_portReset (i : PortId) (new : PortState) : KeepsLatched (portReset i new) := by
  intro s
  have hbefore : Latches s (resetCompleted i new s) :=
    ((Latches.setPort (portRises_resetPort new _)).trans (keepsLatched_completeAll _)).raise _ |>.raiseIf ..
  rw [portReset_eq]
  split
  · exact (hbefore.trans (keepsLatched_resettle _)).trans (keepsLatched_barrierCheck _)
  · exact hbefore.trans (keepsLatched_barrierCheck _)

theorem keepsLatched_protocolError (i : PortId) : KeepsLatched (protocolError i) := by
  intro s
  unfold protocolError
  split
  · exact keepsLatched_portReset i .fault s
  · exact .refl s

theorem latches_lock (i : PortId) (b : Bool) (s : State) : Latches s (s.setPort i { s.port i with locked := b }) := .setPort (.refl _)

theorem keepsLatched_enterSync (i : PortId) : KeepsLatched (enterSync i) := fun s =>
  .raise (.setPort (.of_eq (formVector_counters s.live s.ackTimeout { s.port i with state := .sync }))) _

/-- The end of a full reset: each lane that held its lock enters SYNC (R112). -/
theorem keepsLatched_takeHeldLocks : KeepsLatched takeHeldLocks := by
  have hlock (i : PortId) : KeepsLatched fun s => if (s.port i).locked then enterSync i s else s := fun s => by
    dsimp only
    split
    · exact keepsLatched_enterSync i s
    · exact .refl s
  exact fun s => .trans (hlock .lp0 s) (hlock .lp1 _)

theorem keepsLatched_serveResolve (i : PortId) : KeepsLatched (serveResolve i) := by
  intro s
  cases hfind : (s.port i).answers.find? ResolveEntry.unserved with
  | none => simp only [serveResolve, hfind]; exact .refl s
  | some e => rw [serveResolve_eq hfind]; exact .setPort (.of_eq (servedPort_counters ..))

theorem keepsLatched_ackTaken (i : PortId) (v : DownVector) : KeepsLatched (ackTaken i v) := by
  intro s
  have hport (c : Bool) : Latches s ((s.setPort i ((s.port i).acknowledge v s.live s.ackTimeout)).raiseIf c flagPort) :=
    .raiseIf (.setPort (.of_eq (acknowledge_counters ..))) ..
  unfold ackTaken
  dsimp only
  split
  · exact (hport _).trans (keepsLatched_resettle _)
  · exact hport _

theorem keepsLatched_takeRetractDone (i : PortId) (e : RetractEntry) : KeepsLatched (takeRetractDone i e) := fun _ =>
  .trans (.trans (.setPort (portRises_retractDone ..)) (keepsLatched_completeGroup ..)) (keepsLatched_barrierCheck _)

end Sys2Proof.Proofs
end

section
/-! PROOFS. Every command lets the counters and the flags latch, but for a full reset, a clearing Read Counters and Read Events, and these two
each keep the other half (R156, R157, R162; O52). -/
namespace Sys2Proof.Proofs
open Sys2Proof.Machine Sys2Proof.Safety Sys2Proof.Claims

/-! ### The frames and accesses around a meaning -/

theorem latches_unlessReset {s t : State} {f : State → State} (h : unlessReset s f = .next t) (hf : KeepsLatched f) : Latches s t := by
  rcases unlessReset_next h with ⟨-, rfl⟩ | ⟨-, rfl⟩
  · exact .refl t
  · exact hf s

theorem keepsLatched_reply {status : ReplyStatus} {payload : State → List Byte} : KeepsLatched fun s => formReply status (payload s) s :=
  fun _ => .outside

theorem keepsLatched_whenReady {serve : State → State} (hserve : KeepsLatched serve) : KeepsLatched (whenReady serve) := by
  intro s
  unfold whenReady
  split
  · exact hserve s
  · exact .outside

theorem keepsLatched_access {q : Requester} {f : State → State} (hf : KeepsLatched f) : KeepsLatched (access q f) := by
  intro s
  rcases access_cases q f s with ⟨-, h⟩ | ⟨-, h⟩ <;> rw [h]
  · exact (hf _).after
  · exact .refl s

/-- Counters and flags latch between the two states, up to one serving of a request at the end. -/
def LatchesUpTo {α : Type} (serve : α → State → State) (s t : State) : Prop :=
  ∃ m, Latches s m ∧ (t = m ∨ ∃ a, t = serve a m)

section Requests
variable {α : Type} {dec : List Byte → Option α} {own : α → Bool} {rest : List Byte} {serve : α → State → State} {s t : State}

theorem LatchesUpTo.latches (h : LatchesUpTo serve s t) (hserve : ∀ a, KeepsLatched (serve a)) : Latches s t := by
  obtain ⟨m, hm, rfl | ⟨a, rfl⟩⟩ := h
  · exact hm
  · exact hm.trans (hserve a m)

theorem LatchesUpTo.counters (h : LatchesUpTo serve s t) (hserve : ∀ a m, CountersRise m (serve a m)) : CountersRise s t := by
  obtain ⟨m, hm, rfl | ⟨a, rfl⟩⟩ := h
  · exact hm.counters
  · exact hm.counters.trans (hserve a m)

theorem LatchesUpTo.flags (h : LatchesUpTo serve s t) (hserve : ∀ a m, FlagsStay m (serve a m)) : FlagsStay s t := by
  obtain ⟨m, hm, rfl | ⟨a, rfl⟩⟩ := h
  · exact hm.flags
  · exact hm.flags.trans (hserve a m)

/-- A frame up to its serving: a fill byte is shifted out for each of its bytes, and a drop is counted (R134). -/
theorem latchesUpTo_judgeFrame (n : Nat) (serve : State → State) (s : State) :
    LatchesUpTo (fun _ : Unit => serve) s (judgeFrame n serve s) := by
  rcases judgeFrame_cases n serve s with ⟨-, h⟩ | ⟨-, -, h⟩ | ⟨-, -, h⟩ <;> rw [h]
  · exact ⟨s, .refl s, .inl rfl⟩
  · exact ⟨_, .outside, .inr ⟨(), rfl⟩⟩
  · refine ⟨_, ?_, .inl rfl⟩
    exact .of_mgmt rfl rfl rfl (BitVec.le_refl _) (satInc_rises _) fun _ => id

/-- A request frame up to its serving: BAD_REQUEST is a reply alone (R137). -/
theorem latchesUpTo_takeRequest : LatchesUpTo serve s (takeRequest dec rest serve s) := by
  unfold takeRequest
  obtain ⟨m, hm, h | ⟨_, h⟩⟩ := latchesUpTo_judgeFrame rest.length _ s <;> rw [h]
  · exact ⟨m, hm, .inl rfl⟩
  · split
    · exact ⟨_, hm.formReply .badRequest [], .inl rfl⟩
    · exact ⟨m, hm, .inr ⟨_, rfl⟩⟩

theorem latchesUpTo_request (h : unlessReset s (takeRequest dec rest serve) = .next t) : LatchesUpTo serve s t := by
  rcases unlessReset_next h with ⟨-, rfl⟩ | ⟨-, rfl⟩
  · exact ⟨t, .refl t, .inl rfl⟩
  · exact latchesUpTo_takeRequest

theorem latchesUpTo_ownRequest (h : unlessReset s (takeOwnRequest dec own rest serve) = .next t) : LatchesUpTo serve s t := by
  rcases unlessReset_next h with ⟨-, rfl⟩ | ⟨-, rfl⟩
  · exact ⟨t, .refl t, .inl rfl⟩
  · unfold takeOwnRequest
    split
    · exact latchesUpTo_takeRequest
    · exact ⟨s, .refl s, .inl rfl⟩

theorem keepsLatched_takeRequest (hserve : ∀ a, KeepsLatched (serve a)) : KeepsLatched (takeRequest dec rest serve) := fun _ =>
  latchesUpTo_takeRequest.latches hserve

end Requests

theorem keepsLatched_judgeFrame {n : Nat} {serve : State → State} (hserve : KeepsLatched serve) : KeepsLatched (judgeFrame n serve) :=
  fun s => (latchesUpTo_judgeFrame n serve s).latches fun _ => hserve

/-! ### The two commands that clear (R160, R163) -/

/-- Read Events clears no counter. -/
theorem countersRise_readEvents {rest : List Byte} {s t : State} (h : execReadEvents rest s = .next t) : CountersRise s t :=
  (latchesUpTo_request h).counters fun _ _ =>
    ⟨fun _ => .refl _, fun i => by cases i <;> exact .refl _, BitVec.le_refl _, BitVec.le_refl _⟩

/-- Read Counters clears no flag. -/
theorem flagsStay_readCountersClear {rest : List Byte} {s t : State} (h : execReadCountersClear rest s = .next t) : FlagsStay s t :=
  (latchesUpTo_ownRequest h).flags fun _ _ _ => id

/-! ### The events of the scan, the requests and the accesses -/

theorem latches_scanFrameStart {s t : State} (h : execScanFrameStart s = .next t) : Latches s t := by
  refine latches_unlessReset h fun s => ?_
  split <;> exact .outside

theorem latches_scanFrameJudged {bits : BitVec 68} {s t : State} (h : execScanFrameJudged bits s = .next t) : Latches s t := by
  refine latches_unlessReset h fun s => ?_
  split
  · exact .refl s
  · split
    · exact keepsLatched_goodFrame bits s
    · exact keepsLatched_badFrame s

theorem keepsLatched_presentGroupRequest (g : Nat) (members : Option (List Member)) (r : GroupRequest) :
    KeepsLatched (presentGroupRequest g members r) := by
  refine keepsLatched_whenReady fun s => ?_
  split
  · exact .outside
  · split <;> exact .outside

theorem latches_installGroup {stage : AccessStage} {s t : State} (h : execInstallGroup stage s = .next t) : Latches s t := by
  refine latches_unlessReset h fun s => ?_
  split
  · exact keepsLatched_takeRequest (fun _ => keepsLatched_presentGroupRequest _ _ _) s
  · split
    · exact keepsLatched_access (keepsLatched_installAccess _) s
    · exact .refl s

theorem latches_modifyGroup {stage : AccessStage} {s t : State} (h : execModifyGroup stage s = .next t) : Latches s t := by
  refine latches_unlessReset h fun s => ?_
  split
  · exact keepsLatched_takeRequest (fun _ => keepsLatched_presentGroupRequest _ _ _) s
  · split
    · exact keepsLatched_access (keepsLatched_modifyAccess _) s
    · exact .refl s

theorem latches_retireGroup {stage : AccessStage} {s t : State} (h : execRetireGroup stage s = .next t) : Latches s t := by
  refine latches_unlessReset h fun s => ?_
  split
  · exact keepsLatched_takeRequest (fun _ => keepsLatched_presentGroupRequest _ _ _) s
  · split
    · exact keepsLatched_access (keepsLatched_retireAccess _ _) s
    · exact .refl s

theorem latches_readGroup {stage : AccessStage} {s t : State} (h : execReadGroup stage s = .next t) : Latches s t := by
  refine latches_unlessReset h fun s => ?_
  split
  · exact keepsLatched_takeRequest (fun _ => keepsLatched_presentGroupRequest _ _ _) s
  · split
    · exact keepsLatched_access keepsLatched_reply s
    · exact .refl s

theorem latches_rangeSurvey {rest : List Byte} {s t : State} (h : execRangeSurvey rest s = .next t) : Latches s t := by
  refine (latchesUpTo_request h).latches fun f => keepsLatched_whenReady fun s => ?_
  split <;> exact .outside

theorem latches_rangeSurveyAccess {s t : State} (h : execRangeSurveyAccess s = .next t) : Latches s t := by
  refine latches_unlessReset h fun s => ?_
  split
  · exact keepsLatched_access (keepsLatched_surveyAccess _) s
  · exact .refl s

theorem latches_uplinkJobVisit {s t : State} (h : execUplinkJobVisit s = .next t) : Latches s t := by
  refine latches_unlessReset h fun s => ?_
  split
  · exact keepsLatched_access (keepsLatched_uplinkVisit _ _) s
  · exact .refl s

theorem latches_closingAccess {s t : State} (h : execClosingAccess s = .next t) : Latches s t := by
  refine latches_unlessReset h fun s => ?_
  split
  · exact keepsLatched_access keepsLatched_endJob s
  · exact .refl s

theorem latches_sweepVisit {s t : State} (h : execSweepVisit s = .next t) : Latches s t := by
  refine latches_unlessReset h fun s => ?_
  split
  · exact keepsLatched_access (keepsLatched_sweepJobVisit _ _ _) s
  · exact .refl s

theorem keepsLatched_takeBarrier (f : BarrierFields) : KeepsLatched (takeBarrier f) := fun _ => (keepsLatched_barrierCheck _).after

theorem latches_barrierTimerExpiry {s t : State} (h : execBarrierTimerExpiry s = .next t) : Latches s t := by
  refine latches_unlessReset h fun s => ?_
  split
  · split <;> exact .outside
  · exact .refl s

theorem latches_unknownRequestKind {kind : Byte} {rest : List Byte} {s t : State}
    (h : execUnknownRequestKind kind rest s = .next t) : Latches s t := by
  refine latches_unlessReset h fun s => ?_
  split
  · exact keepsLatched_judgeFrame keepsLatched_reply s
  · exact .refl s

theorem latches_requestDropped {frame : List Byte} {s t : State} (h : execRequestDropped frame s = .next t) : Latches s t := by
  refine latches_unlessReset h fun s => ?_
  split
  · exact keepsLatched_judgeFrame Latches.refl s
  · exact .refl s

/-- A read frame that no full reset follows (R135). -/
theorem latches_readFrame {clocked : Nat} {s t : State} (howed : s.mgmt.resetOwed = false) (h : execReadFrame clocked s = .next t) :
    Latches s t := by
  rcases unlessReset_next h with ⟨-, rfl⟩ | ⟨-, rfl⟩
  · exact .refl t
  · unfold readFrame
    split
    · exact .refl s
    · split
      · simp only [howed, if_neg Bool.false_ne_true]; exact .outside
      · exact .outside

/-! ### The pins and the lanes -/

theorem latches_porstNRelease {s t : State} (h : execPorstNRelease s = .next t) : Latches s t := by
  cases h
  split
  · exact (keepsLatched_takeHeldLocks _).after
  · exact .refl s

theorem latches_initSweepEnd {s t : State} (h : execInitSweepEnd s = .next t) : Latches s t := by
  refine latches_unlessReset h fun s => ?_
  split
  · exact .refl s
  · refine .raise ?_ _
    exact .outside

theorem latches_laneLockGained {i : PortId} {s t : State} (h : execLaneLockGained i s = .next t) : Latches s t := by
  cases h
  split
  · exact latches_lock i true s
  · split
    · exact (latches_lock i true s).trans (keepsLatched_enterSync i _)
    · exact latches_lock i true s

theorem latches_laneLockLost {i : PortId} {s t : State} (h : execLaneLockLost i s = .next t) : Latches s t := by
  cases h
  split
  · exact latches_lock i false s
  · split
    · exact latches_lock i false s
    · exact (latches_lock i false s).trans (keepsLatched_portReset i .down _)

theorem latches_resolve {i : PortId} {index : BitVec 16} {s t : State} (h : execResolve i index s = .next t) : Latches s t := by
  refine latches_unlessReset h fun s => ?_
  dsimp only
  split
  · exact .refl s
  · split
    · exact keepsLatched_protocolError i s
    · exact .setPort (.refl _)

theorem latches_vectorAck {i : PortId} {sequence : Byte} {s t : State} (h : execVectorAck i sequence s = .next t) : Latches s t := by
  refine latches_unlessReset h fun s => ?_
  dsimp only
  split
  · exact .refl s
  · split
    · exact keepsLatched_protocolError i s
    · split
      · exact keepsLatched_protocolError i s
      · exact keepsLatched_ackTaken i _ s

theorem latches_retractDone {i : PortId} {group : BitVec 16} {s t : State} (h : execRetractDone i group s = .next t) : Latches s t := by
  refine latches_unlessReset h fun s => ?_
  dsimp only
  split
  · split
    · exact keepsLatched_protocolError i s
    · split
      · exact keepsLatched_takeRetractDone i _ s
      · exact keepsLatched_protocolError i s
  · exact keepsLatched_protocolError i s
  · exact .refl s
  · exact .refl s

/-- A message that is an error under some condition. -/
theorem latches_laneError {p : Prop} [Decidable p] {i : PortId} {s t : State}
    (h : unlessReset s (fun s => if p then protocolError i s else s) = .next t) : Latches s t := by
  refine latches_unlessReset h fun s => ?_
  split
  · exact keepsLatched_protocolError i s
  · exact .refl s

theorem latches_ackTimerExpiry {i : PortId} {s t : State} (h : execAckTimerExpiry i s = .next t) : Latches s t := by
  refine latches_unlessReset h fun s => ?_
  split
  · exact .refl s
  · exact keepsLatched_protocolError i s

theorem latches_answerLeaves {i : PortId} {s t : State} (h : execAnswerLeaves i s = .next t) : Latches s t := by
  refine latches_unlessReset h fun s => ?_
  split
  · exact .setPort (portRises_countAnswer _ _)
  · exact .refl s

theorem latches_messageLeaves {i : PortId} {s t : State} (h : execMessageLeaves i s = .next t) : Latches s t := by
  refine latches_unlessReset h fun s => ?_
  split
  · exact .refl s
  · exact .refl s
  · exact .setPort (.refl _)

/-! ### Every command -/

/-- Every command but those that clear lets the counters and the flags latch. -/
theorem exec_latches (c : Instr) {s t : State} (h : exec c s = .next t) (hpin : c ≠ .porstNAssert)
    (hread : ∀ n, c = .readFrame n → s.mgmt.resetOwed = false) (hcounters : ∀ rest, c ≠ .readCountersClear rest)
    (hevents : ∀ rest, c ≠ .readEvents rest) : Latches s t := by
  cases c with
  | porstNAssert => exact absurd rfl hpin
  | readCountersClear rest => exact absurd rfl (hcounters rest)
  | readEvents rest => exact absurd rfl (hevents rest)
  | readFrame clocked => exact latches_readFrame (hread clocked rfl) h
  | filteredLineLevelChange u level => exact latches_unlessReset h (keepsLatched_stepUplink u fun _ => .line level)
  | scanFrameStart => exact latches_scanFrameStart h
  | scanFrameJudged bits => exact latches_scanFrameJudged h
  | qualifyTimerExpiry u => exact latches_unlessReset h (keepsLatched_stepUplink u fun _ => .qualifyExpired)
  | restoreTimerExpiry u => exact latches_unlessReset h (keepsLatched_stepUplink u fun _ => .restoreExpired)
  | holdTimerExpiry u => exact latches_unlessReset h (keepsLatched_stepUplink u fun _ => .holdExpired)
  | windowTimerExpiry u => exact latches_unlessReset h (keepsLatched_stepUplink u fun _ => .windowExpired)
  | configureUplink rest =>
    exact (latchesUpTo_request h).latches fun f s => (keepsLatched_stepUplink f.1 (fun _ => .configured _) s).formReply ..
  | setAdminClear rest =>
    exact (latchesUpTo_ownRequest h).latches fun f s => (keepsLatched_stepUplinks f.2 (fun _ _ => .adminClear) s).formReply ..
  | setAdminSet rest =>
    exact (latchesUpTo_ownRequest h).latches fun f s => (keepsLatched_stepUplinks f.2 (fun _ _ => .adminSet) s).formReply ..
  | configureScanEnable rest =>
    exact (latchesUpTo_ownRequest h).latches fun f s => (keepsLatched_enableScan f.2 s).formReply ..
  | configureScanDisable rest =>
    exact (latchesUpTo_ownRequest h).latches fun f s => (keepsLatched_disableScan f.2 s).formReply ..
  | readUplink rest => exact (latchesUpTo_request h).latches fun _ => keepsLatched_reply
  | installGroup stage => exact latches_installGroup h
  | modifyGroup stage => exact latches_modifyGroup h
  | retireGroup stage => exact latches_retireGroup h
  | readGroup stage => exact latches_readGroup h
  | rangeSurvey rest => exact latches_rangeSurvey h
  | rangeSurveyAccess => exact latches_rangeSurveyAccess h
  | rebalanceRange rest => exact (latchesUpTo_request h).latches fun f => keepsLatched_whenReady (keepsLatched_rebalance _ _)
  | uplinkJobVisit => exact latches_uplinkJobVisit h
  | closingAccess => exact latches_closingAccess h
  | sweepVisit => exact latches_sweepVisit h
  | barrier rest => exact (latchesUpTo_request h).latches fun f => keepsLatched_whenReady (keepsLatched_takeBarrier f)
  | barrierTimerExpiry => exact latches_barrierTimerExpiry h
  | identify rest => exact (latchesUpTo_request h).latches fun _ => keepsLatched_reply
  | readStatus rest => exact (latchesUpTo_request h).latches fun _ => keepsLatched_reply
  | configurePorts rest => exact (latchesUpTo_request h).latches fun _ _ => .outside
  | setEventEnablesSet rest => exact (latchesUpTo_ownRequest h).latches fun _ _ => .outside
  | setEventEnablesClear rest => exact (latchesUpTo_ownRequest h).latches fun _ _ => .outside
  | readCounters rest => exact (latchesUpTo_ownRequest h).latches fun _ => keepsLatched_reply
  | fullResetRequest rest => exact (latchesUpTo_request h).latches fun _ _ => .outside
  | unknownRequestKind kind rest => exact latches_unknownRequestKind h
  | requestDropped frame => exact latches_requestDropped h
  | mrstNAssert => cases h; exact .outside
  | mrstNRelease => cases h; exact .outside
  | porstNRelease => exact latches_porstNRelease h
  | initSweepEnd => exact latches_initSweepEnd h
  | laneLockGained i => exact latches_laneLockGained h
  | laneLockLost i => exact latches_laneLockLost h
  | resolve i index => exact latches_resolve h
  | resolveAccess i => exact latches_unlessReset h (keepsLatched_access (keepsLatched_serveResolve i))
  | vectorAck i sequence => exact latches_vectorAck h
  | retractDone i group => exact latches_retractDone h
  | unknownKind i bytes => exact latches_laneError h
  | ackTimerExpiry i => exact latches_ackTimerExpiry h
  | answerLeaves i => exact latches_answerLeaves h
  | messageLeaves i => exact latches_messageLeaves h
  | wrongLengthMessage i bytes => exact latches_laneError h

/-- No command but a clearing Read Counters and a full reset lowers a counter (R162). -/
theorem exec_countersRise {c : Instr} {s t : State} (h : exec c s = .next t) (hpin : c ≠ .porstNAssert)
    (hread : ∀ n, c = .readFrame n → s.mgmt.resetOwed = false) (hcounters : ∀ rest, c ≠ .readCountersClear rest) : CountersRise s t := by
  by_cases hevents : ∃ rest, c = .readEvents rest
  · obtain ⟨rest, rfl⟩ := hevents
    exact countersRise_readEvents h
  · exact (exec_latches c h hpin hread hcounters (not_exists.mp hevents)).counters

/-- No command but Read Events and a full reset clears a flag (R157). -/
theorem exec_flagsStay {c : Instr} {s t : State} (h : exec c s = .next t) (hpin : c ≠ .porstNAssert)
    (hread : ∀ n, c = .readFrame n → s.mgmt.resetOwed = false) (hevents : ∀ rest, c ≠ .readEvents rest) : FlagsStay s t := by
  by_cases hcounters : ∃ rest, c = .readCountersClear rest
  · obtain ⟨rest, rfl⟩ := hcounters
    exact flagsStay_readCountersClear h
  · exact (exec_latches c h hpin hread (not_exists.mp hcounters) hevents).flags

/-- Settles O52: no shared operation lowers a counter or clears a flag, and the commands are made of these. -/
theorem countersAndFlagsLatch : Obligations.CountersAndFlagsLatch := by
  refine fun c s t h hpin hread => ⟨fun hcounters => ?_, exec_flagsStay h hpin hread⟩
  obtain ⟨huplink, hport, hvisits, hdropped⟩ := exec_countersRise h hpin hread hcounters
  refine ⟨fun u => ?_, fun i => ?_, hvisits, hdropped⟩
  · obtain ⟨hdark, hdamp⟩ := huplink u
    exact ⟨hdark, hdamp⟩
  · obtain ⟨hok, hnoRoute, hbusy, hretracts, hfaults⟩ := hport i
    exact ⟨hok, hnoRoute, hbusy, hretracts, hfaults⟩

end Sys2Proof.Proofs
end

section
/-! PROOFS. The request frames round-trip, and the bits of an uplink byte, a term byte and an attributes byte that are to be ignored are
(R170, R171; O59). -/
namespace Sys2Proof.Proofs
open Sys2Proof.Machine Sys2Proof.Safety Sys2Proof.Claims

/-! ### Whole frames round-trip (R170) -/

/-- A payload that decodes to its fields does so from its whole frame. -/
theorem payloadOf_frameRest_bind {α : Type} {dec : List Byte → Option α} {payload : List Byte} {a : α} (hlen : payload.length < 65536)
    (hdec : dec payload = some a) : (payloadOf (frameRest payload)).bind dec = some a := by
  rw [payloadOf_frameRest hlen, Option.bind_some, hdec]

theorem encodeInstall_roundTrip {f : InstallFields} (hg : f.group < 65536) (h : Carried f.members) :
    (payloadOf (encodeInstall f)).bind decodeInstall = some f := by
  have hmembers := encodeMembers_length_le h
  refine payloadOf_frameRest_bind ?_ (decodeInstall_encode hg h)
  simp only [bytes16, List.length_append, List.length_cons, List.length_nil]
  omega

theorem encodeModify_roundTrip {f : ModifyFields} (hg : f.group < 65536) (h : Carried f.members) :
    (payloadOf (encodeModify f)).bind decodeModify = some f := by
  have hmembers := encodeMembers_length_le h
  refine payloadOf_frameRest_bind ?_ (decodeModify_encode hg h)
  simp only [bytes16, bytes32, List.length_append, List.length_cons, List.length_nil]
  omega

theorem encodeConfigureUplink_roundTrip (u : Fin 32) (c : UplinkConfig) :
    (payloadOf (encodeConfigureUplink u c)).bind decodeConfigureUplink = some (u, c) := by
  have hdec := decodeConfigureUplink_encode (byteOfNat u.val) c
  rw [uplinkOfByte_encode] at hdec
  exact payloadOf_frameRest_bind (by simp [encodeConfig, bytes16]) hdec

/-! ### The ignored bits (R171) -/

/-- A mask of low ones keeps the low bits of a byte. -/
theorem toNat_and_lowOnes (b : Byte) {mask : Byte} (k : Nat) (hmask : mask.toNat = 2 ^ k - 1) : (b &&& mask).toNat = b.toNat % 2 ^ k := by
  rw [BitVec.toNat_and, hmask, Nat.and_two_pow_sub_one_eq_mod]

/-- An uplink byte is read in bits 0 to 4: a mask of low ones that keeps these changes nothing. -/
theorem uplinkOfByte_and_lowOnes (b : Byte) {mask : Byte} (k : Nat) (hmask : mask.toNat = 2 ^ k - 1) (hk : 5 ≤ k) :
    uplinkOfByte (b &&& mask) = uplinkOfByte b := by
  refine Fin.ext ?_
  have hlow := toNat_and_lowOnes b k hmask
  have hdvd : 2 ^ 5 ∣ 2 ^ k := Nat.pow_dvd_pow 2 hk
  exact (congrArg (· % 2 ^ 5) hlow).trans (Nat.mod_mod_of_dvd _ hdvd)

theorem uplinkOfByte_ignored (b : Byte) : uplinkOfByte (b &&& 0x1F#8) = uplinkOfByte b :=
  uplinkOfByte_and_lowOnes b 5 rfl (by decide)

/-- The want is bit 5, which the mask keeps. -/
theorem decodeTerm_ignored (b : Byte) : decodeTerm (b &&& 0x3F#8) = decodeTerm b := by
  have hwatched := uplinkOfByte_and_lowOnes b (mask := 0x3F#8) 6 rfl (by decide)
  have hwant : (b &&& 0x3F#8).getLsbD 5 = b.getLsbD 5 := by rw [BitVec.getLsbD_and]; exact Bool.and_true _
  rw [decodeTerm, hwatched, hwant, decodeTerm]

/-- The number of terms, the role and the weight are bits 0 to 6. -/
theorem attributes_ignored (a : Byte) : (a &&& 0x7F#8).toNat / 32 % 4 = a.toNat / 32 % 4 ∧
    (a &&& 0x7F#8).getLsbD 4 = a.getLsbD 4 ∧ (a &&& 0x7F#8).toNat % 16 = a.toNat % 16 := by
  have hlow : (a &&& 0x7F#8).toNat = a.toNat % 128 := toNat_and_lowOnes a 7 rfl
  refine ⟨by omega, ?_, by omega⟩
  rw [BitVec.getLsbD_and]
  exact Bool.and_true _

theorem decodeConfigureUplink_ignored (b : Byte) (bs : List Byte) :
    decodeConfigureUplink ((b &&& 0x1F#8) :: bs) = decodeConfigureUplink (b :: bs) := by
  unfold decodeConfigureUplink
  split
  next heq =>
    obtain ⟨rfl, rfl⟩ := List.cons.inj heq
    simp only [uplinkOfByte_ignored]
  next hshape =>
    split
    next heq =>
      obtain ⟨rfl, rfl⟩ := List.cons.inj heq
      exact (hshape _ _ _ _ _ _ _ _ rfl).elim
    next => rfl

theorem takeTerms_ignored (n : Nat) (b : Byte) (bs : List Byte) :
    takeTerms (n + 1) ((b &&& 0x3F#8) :: bs) = takeTerms (n + 1) (b :: bs) := by
  simp only [takeTerms, decodeTerm_ignored]

theorem takeMembers_ignored (n : Nat) (u a : Byte) (bs : List Byte) :
    takeMembers (n + 1) ((u &&& 0x1F#8) :: (a &&& 0x7F#8) :: bs) = takeMembers (n + 1) (u :: a :: bs) := by
  obtain ⟨hterms, hrole, hweight⟩ := attributes_ignored a
  simp only [takeMembers, uplinkOfByte_ignored, hterms, hrole, hweight]

/-- Settles O59: each payload fits its length field and decodes to its fields, and the decoders read an uplink byte, a term byte and an
attributes byte only in the bits the masks keep. -/
theorem requestFramesRoundTrip : Obligations.RequestFramesRoundTrip := by
  refine ⟨fun _ => encodeInstall_roundTrip, fun _ => encodeModify_roundTrip, encodeConfigureUplink_roundTrip,
    fun set us => ?setAdmin, fun enable p => ?configureScan, fun g n hg => ?retire, fun g hg => ?readGroup,
    fun first count hfirst hcount => ?range, fun b => ?barrier, fun set flags => ?setEnables, fun clear => ?readCounters,
    fun b bs => (decodeConfigureUplink_ignored b bs).symm, fun b u hu => ?readUplink,
    fun n b bs => (takeTerms_ignored n b bs).symm, fun n u a bs => (takeMembers_ignored n u a bs).symm⟩
  case setAdmin => exact payloadOf_frameRest_bind (by simp [bytes32]) (decodeSetAdmin_encode set us)
  case configureScan => exact payloadOf_frameRest_bind (by simp [bytes16]) (decodeConfigureScan_encode enable p)
  case retire => exact payloadOf_frameRest_bind (by simp [bytes16, bytes32]) (decodeRetire_encode hg n)
  case readGroup => exact payloadOf_frameRest_bind (by simp [bytes16]) (decodeReadGroup_encode hg)
  case range => exact payloadOf_frameRest_bind (by simp [bytes16]) (decodeRange_encode hfirst hcount)
  case barrier => exact payloadOf_frameRest_bind (by simp [bytes16, bytes32]) (decodeBarrier_encode b)
  case setEnables => exact payloadOf_frameRest_bind (by simp) (decodeSetEnables_encode set flags)
  case readCounters => exact payloadOf_frameRest_bind (by simp) (decodeReadCounters_encode clear)
  case readUplink =>
    have hnamed : uplinkOfByte b = u := Fin.ext hu.symm
    exact payloadOf_frameRest_bind (by simp) (congrArg some hnamed)

end Sys2Proof.Proofs
end

section
/-! PROOFS. A step runs the front command (O1), and every command is answered by a next state whose queue, reset pins and frame in progress on
the management link are as they were, but for the commands of the pins and a read frame that a full reset follows (R46, R133, R143, R154; O2). -/
namespace Sys2Proof.Proofs
open Sys2Proof.Machine Sys2Proof.Safety Sys2Proof.Claims

/-- Settles O1: by the two branches of a step. -/
theorem stepRunsTheFrontCommand : Obligations.StepRunsTheFrontCommand := by
  intro s c rest
  exact ⟨fun hfront => by rw [step, hfront], fun hempty => by rw [step, hempty]⟩

/-! ### What no block writes -/

/-- The parts of the state that are no block's: the queue, the levels of the two reset pins, the frame in progress on the management link. -/
structure Boundary where
  pending : List Instr
  mrst : Bool
  porst : Bool
  link : Link

def boundaryOf (s : State) : Boundary := { pending := s.pending, mrst := s.mrst, porst := s.porst, link := s.link }

/-- Every use of this meaning leaves the parts that are no block's. -/
def KeepsBoundary (f : State → State) : Prop := ∀ s, boundaryOf (f s) = boundaryOf s

/-! ### The frames and accesses around a meaning -/

theorem keepsBoundary_judgeFrame {n : Nat} {serve : State → State} (hserve : KeepsBoundary serve) : KeepsBoundary (judgeFrame n serve) := by
  intro s
  rcases judgeFrame_cases n serve s with ⟨-, h⟩ | ⟨-, -, h⟩ | ⟨-, -, h⟩ <;> rw [h]
  · exact hserve _
  · rfl

theorem keepsBoundary_formReply {status : ReplyStatus} {payload : State → List Byte} :
    KeepsBoundary fun s => formReply status (payload s) s := fun _ => rfl

/-- A meaning whose end is a reply. -/
theorem KeepsBoundary.thenReply {f : State → State} (hf : KeepsBoundary f) {status : ReplyStatus} {payload : State → List Byte} :
    KeepsBoundary fun s => formReply status (payload s) (f s) := hf

section Requests
variable {α : Type} {dec : List Byte → Option α} {own : α → Bool} {rest : List Byte} {serve : α → State → State}

theorem keepsBoundary_takeRequest (hserve : ∀ a, KeepsBoundary (serve a)) : KeepsBoundary (takeRequest dec rest serve) := by
  refine keepsBoundary_judgeFrame fun s => ?_
  split
  · rfl
  · exact hserve _ s

theorem keepsBoundary_takeOwnRequest (hserve : ∀ a, KeepsBoundary (serve a)) : KeepsBoundary (takeOwnRequest dec own rest serve) := by
  intro s
  unfold takeOwnRequest
  split
  · exact keepsBoundary_takeRequest hserve s
  · rfl

end Requests

theorem keepsBoundary_whenReady {serve : State → State} (hserve : KeepsBoundary serve) : KeepsBoundary (whenReady serve) := by
  intro s
  unfold whenReady
  split
  · exact hserve s
  · rfl

theorem keepsBoundary_access {q : Requester} {f : State → State} (hf : KeepsBoundary f) : KeepsBoundary (access q f) := by
  intro s
  rcases access_cases q f s with ⟨-, h⟩ | ⟨-, h⟩ <;> rw [h]
  exact hf _

/-! ### The meanings of the Path Table and the Walk Engine -/

theorem keepsBoundary_presentGroupRequest (g : Nat) (members : Option (List Member)) (r : GroupRequest) :
    KeepsBoundary (presentGroupRequest g members r) := by
  refine keepsBoundary_whenReady fun s => ?_
  split
  · rfl
  · split <;> rfl

theorem keepsBoundary_installAccess (f : InstallFields) : KeepsBoundary (installAccess f) := by
  intro s
  unfold installAccess
  dsimp only
  split <;> rfl

theorem keepsBoundary_modifyAccess (f : ModifyFields) : KeepsBoundary (modifyAccess f) := by
  intro s
  unfold modifyAccess
  dsimp only
  split
  · rfl
  · split <;> rfl

theorem keepsBoundary_retireAccess (g : Nat) (expected : Generation) : KeepsBoundary (retireAccess g expected) := by
  intro s
  unfold retireAccess
  dsimp only
  split
  · rfl
  · simp [boundaryOf, groupReply]

theorem keepsBoundary_surveyAccess (v : Survey) : KeepsBoundary (surveyAccess v) := by
  intro s
  unfold surveyAccess
  dsimp only
  split <;> rfl

theorem keepsBoundary_rebalance (first count : Nat) : KeepsBoundary (rebalance first count) := by
  intro s
  unfold rebalance
  split
  · rfl
  · split
    · rfl
    · simp [boundaryOf]

theorem keepsBoundary_endJob : KeepsBoundary endJob := fun s => by simp [boundaryOf, endJob]

theorem keepsBoundary_persist (g : Nat) (map : BucketMap) : KeepsBoundary (persist g map) := fun s => by simp [boundaryOf]

/-- A visit's write, then the cursor's advance or the job's end. -/
theorem keepsBoundary_uplinkVisit (u : Fin 32) (g : Nat) : KeepsBoundary (uplinkVisit u g) := by
  intro s
  have hvisit : boundaryOf (countVisit (persist g ((s.group g).effectiveMap s.settled) s)) = boundaryOf s := keepsBoundary_persist _ _ s
  unfold uplinkVisit
  dsimp only
  split
  · exact hvisit
  · exact (keepsBoundary_endJob _).trans hvisit

theorem keepsBoundary_sweepWrite (g : Nat) : KeepsBoundary (sweepWrite g) := by
  intro s
  unfold sweepWrite
  split
  · exact keepsBoundary_persist _ _ s
  · rfl

theorem keepsBoundary_sweepJobVisit (first count next : Nat) : KeepsBoundary (sweepJobVisit first count next) := by
  intro s
  have hvisit : boundaryOf (countVisit (sweepWrite next s)) = boundaryOf s := keepsBoundary_sweepWrite next s
  unfold sweepJobVisit
  dsimp only
  split
  · exact (keepsBoundary_endJob _).trans hvisit
  · exact hvisit

/-! ### The meanings of the Management Interface -/

theorem keepsBoundary_takeBarrier (f : BarrierFields) : KeepsBoundary (takeBarrier f) := fun s => by simp [boundaryOf, takeBarrier]

theorem keepsBoundary_clearCounters : KeepsBoundary clearCounters := fun s => by
  simp only [boundaryOf, clearCounters]

/-! ### The meanings of the ports -/

theorem keepsBoundary_setPort (i : PortId) (p : Port) : KeepsBoundary fun s => s.setPort i p := fun s => by simp [boundaryOf]

theorem keepsBoundary_enterSync (i : PortId) : KeepsBoundary (enterSync i) := fun s => by simp [boundaryOf, enterSync]

theorem keepsBoundary_syncIfLocked (i : PortId) : KeepsBoundary fun s => if (s.port i).locked then enterSync i s else s := by
  intro s
  dsimp only
  split
  · exact keepsBoundary_enterSync i s
  · rfl

theorem keepsBoundary_takeHeldLocks : KeepsBoundary takeHeldLocks := fun s =>
  (keepsBoundary_syncIfLocked .lp1 _).trans (keepsBoundary_syncIfLocked .lp0 s)

theorem keepsBoundary_portReset (i : PortId) (new : PortState) : KeepsBoundary (portReset i new) := by
  intro s
  rw [portReset_eq]
  split <;> simp [boundaryOf, resetCompleted]

theorem keepsBoundary_protocolError (i : PortId) : KeepsBoundary (protocolError i) := by
  intro s
  unfold protocolError
  split
  · exact keepsBoundary_portReset i .fault s
  · rfl

theorem keepsBoundary_ackTaken (i : PortId) (v : DownVector) : KeepsBoundary (ackTaken i v) := by
  intro s
  unfold ackTaken
  dsimp only
  split <;> simp [boundaryOf]

theorem keepsBoundary_takeRetractDone (i : PortId) (e : RetractEntry) : KeepsBoundary (takeRetractDone i e) := fun s => by
  simp [boundaryOf, takeRetractDone]

theorem keepsBoundary_serveResolve (i : PortId) : KeepsBoundary (serveResolve i) := by
  intro s
  unfold serveResolve
  dsimp only
  split
  · rfl
  · exact keepsBoundary_setPort i _ s

/-! ### The meanings of Uplink Watch -/

theorem keepsBoundary_watchStep (us : Vector Uplink 32) : KeepsBoundary (watchStep us) := fun s => by simp [boundaryOf]

theorem keepsBoundary_stepUplink (u : Fin 32) (f : Uplink → Uplink) : KeepsBoundary (stepUplink u f) := fun s =>
  keepsBoundary_watchStep _ s

theorem keepsBoundary_stepUplinks (us : UplinkSet) (f : Fin 32 → Uplink → Uplink) : KeepsBoundary (stepUplinks us f) := fun s =>
  keepsBoundary_watchStep _ s

/-- A change of the scan receiver, flagged or not. -/
theorem boundaryOf_scan (s : State) (c : Scan) (flag : Bool) (f : Byte) :
    boundaryOf (State.raiseIf { s with scan := c } flag f) = boundaryOf s := by simp [boundaryOf]

theorem keepsBoundary_goodFrame (bits : BitVec 68) : KeepsBoundary (goodFrame bits) := fun s =>
  (keepsBoundary_stepUplinks _ _ _).trans (boundaryOf_scan s ..)

theorem keepsBoundary_badFrame : KeepsBoundary badFrame := fun s => boundaryOf_scan s ..

theorem keepsBoundary_enableScan (period : BitVec 16) : KeepsBoundary (enableScan period) := by
  intro s
  unfold enableScan
  split
  · exact keepsBoundary_stepUplinks _ _ _
  · rfl

theorem keepsBoundary_disableScan (period : BitVec 16) : KeepsBoundary (disableScan period) := by
  intro s
  unfold disableScan
  split
  · rfl
  · exact (keepsBoundary_stepUplinks _ _ _).trans (boundaryOf_scan s ..)

/-! ### The answer to a command -/

/-- What the answer to a command may change of the parts that are no block's. -/
structure Framed (c : Instr) (s t : State) : Prop where
  pending : t.pending = s.pending
  mrst : c ≠ .mrstNAssert → c ≠ .mrstNRelease → t.mrst = s.mrst
  porst : c ≠ .porstNAssert → c ≠ .porstNRelease → t.porst = s.porst
  link : c ≠ .mrstNAssert → c ≠ .porstNAssert → (∀ n, c = .readFrame n → s.mgmt.resetOwed = false) → t.link = s.link

/-- The outcome is a next state that leaves what the command may not change. -/
def Answers (c : Instr) (s : State) (o : Result) : Prop := ∃ t, o = .next t ∧ Framed c s t

section Answers
variable {c : Instr} {s t : State}

theorem Framed.of_boundary (h : boundaryOf t = boundaryOf s) : Framed c s t := by
  obtain ⟨hpending, hmrst, hporst, hlink⟩ := Boundary.mk.inj h
  exact ⟨hpending, fun _ _ => hmrst, fun _ _ => hporst, fun _ _ _ => hlink⟩

theorem answers_next (h : boundaryOf t = boundaryOf s) : Answers c s (.next t) := ⟨t, rfl, .of_boundary h⟩

/-- A command that PORST_N low holds off. -/
theorem answers_unlessReset {f : State → State} (hf : KeepsBoundary f) : Answers c s (unlessReset s f) := by
  rcases unlessReset_eq s f with ⟨-, h⟩ | ⟨-, h⟩ <;> rw [h]
  · exact answers_next (hf s)
  · exact answers_next rfl

end Answers

section Commands
variable {c : Instr} (s : State)

/-! ### The commands of the scan, the group requests and the Walk Engine -/

theorem answers_scanFrameStart : Answers c s (execScanFrameStart s) := by
  refine answers_unlessReset fun s => ?_
  split <;> rfl

theorem answers_scanFrameJudged (bits : BitVec 68) : Answers c s (execScanFrameJudged bits s) := by
  refine answers_unlessReset fun s => ?_
  split
  · rfl
  · split
    · exact keepsBoundary_goodFrame bits s
    · exact keepsBoundary_badFrame s

theorem answers_installGroup (stage : AccessStage) : Answers c s (execInstallGroup stage s) := by
  refine answers_unlessReset fun s => ?_
  split
  · exact keepsBoundary_takeRequest (fun _ => keepsBoundary_presentGroupRequest _ _ _) s
  · split
    · exact keepsBoundary_access (keepsBoundary_installAccess _) s
    · rfl

theorem answers_modifyGroup (stage : AccessStage) : Answers c s (execModifyGroup stage s) := by
  refine answers_unlessReset fun s => ?_
  split
  · exact keepsBoundary_takeRequest (fun _ => keepsBoundary_presentGroupRequest _ _ _) s
  · split
    · exact keepsBoundary_access (keepsBoundary_modifyAccess _) s
    · rfl

theorem answers_retireGroup (stage : AccessStage) : Answers c s (execRetireGroup stage s) := by
  refine answers_unlessReset fun s => ?_
  split
  · exact keepsBoundary_takeRequest (fun _ => keepsBoundary_presentGroupRequest _ _ _) s
  · split
    · exact keepsBoundary_access (keepsBoundary_retireAccess _ _) s
    · rfl

theorem answers_readGroup (stage : AccessStage) : Answers c s (execReadGroup stage s) := by
  refine answers_unlessReset fun s => ?_
  split
  · exact keepsBoundary_takeRequest (fun _ => keepsBoundary_presentGroupRequest _ _ _) s
  · split
    · exact keepsBoundary_access keepsBoundary_formReply s
    · rfl

theorem answers_rangeSurvey (rest : List Byte) : Answers c s (execRangeSurvey rest s) := by
  refine answers_unlessReset (keepsBoundary_takeRequest fun f => keepsBoundary_whenReady fun s => ?_)
  split <;> rfl

theorem answers_rangeSurveyAccess : Answers c s (execRangeSurveyAccess s) := by
  refine answers_unlessReset fun s => ?_
  split
  · exact keepsBoundary_access (keepsBoundary_surveyAccess _) s
  · rfl

theorem answers_uplinkJobVisit : Answers c s (execUplinkJobVisit s) := by
  refine answers_unlessReset fun s => ?_
  split
  · exact keepsBoundary_access (keepsBoundary_uplinkVisit _ _) s
  · rfl

theorem answers_closingAccess : Answers c s (execClosingAccess s) := by
  refine answers_unlessReset fun s => ?_
  split
  · exact keepsBoundary_access keepsBoundary_endJob s
  · rfl

theorem answers_sweepVisit : Answers c s (execSweepVisit s) := by
  refine answers_unlessReset fun s => ?_
  split
  · exact keepsBoundary_access (keepsBoundary_sweepJobVisit _ _ _) s
  · rfl

/-! ### The commands of the Management Interface and the resets -/

theorem answers_barrierTimerExpiry : Answers c s (execBarrierTimerExpiry s) := by
  refine answers_unlessReset fun s => ?_
  split
  · split <;> rfl
  · rfl

theorem answers_unknownRequestKind (kind : Byte) (rest : List Byte) : Answers c s (execUnknownRequestKind kind rest s) := by
  refine answers_unlessReset fun s => ?_
  split
  · exact keepsBoundary_judgeFrame keepsBoundary_formReply s
  · rfl

theorem answers_requestDropped (frame : List Byte) : Answers c s (execRequestDropped frame s) := by
  refine answers_unlessReset fun s => ?_
  split
  · exact keepsBoundary_judgeFrame (fun _ => rfl) s
  · rfl

theorem answers_initSweepEnd : Answers c s (execInitSweepEnd s) := by
  refine answers_unlessReset fun s => ?_
  split <;> rfl

/-- A full reset cuts the frame in progress and leaves the rest of the boundary (R133). -/
theorem boundaryOf_requestedReset : boundaryOf (requestedReset s) = { boundaryOf s with link := s.link.cutShort } :=
  keepsBoundary_takeHeldLocks s.fullReset

/-- A read frame that no full reset follows leaves the frame in progress; the full reset that is owed cuts it (R133, R135, R154). -/
theorem answers_readFrame (clocked : Nat) : Answers (.readFrame clocked) s (execReadFrame clocked s) := by
  rcases unlessReset_eq s (readFrame clocked) with ⟨-, h⟩ | ⟨-, h⟩ <;> rw [execReadFrame, h]
  · refine ⟨_, rfl, ?_⟩
    unfold readFrame
    split
    · exact .of_boundary rfl
    · split
      · dsimp only
        split
        next howed =>
          obtain ⟨hpending, hmrst, hporst, -⟩ := Boundary.mk.inj
            (boundaryOf_requestedReset { s with mgmt := { s.mgmt with iface := .idle, dropped := false, resetOwed := false } })
          exact ⟨hpending, fun _ _ => hmrst, fun _ _ => hporst, fun _ _ hno => absurd howed (by simp [hno clocked rfl])⟩
        next => exact .of_boundary rfl
      · exact .of_boundary rfl
  · exact answers_next rfl

theorem answers_mrstNAssert : Answers .mrstNAssert s (execMrstNAssert s) :=
  ⟨_, rfl, rfl, fun h => absurd rfl h, fun _ _ => rfl, fun h => absurd rfl h⟩

theorem answers_mrstNRelease : Answers .mrstNRelease s (execMrstNRelease s) :=
  ⟨_, rfl, rfl, fun _ h => absurd rfl h, fun _ _ => rfl, fun _ _ _ => rfl⟩

theorem answers_porstNAssert : Answers .porstNAssert s (execPorstNAssert s) := by
  refine ⟨_, rfl, ?_⟩
  split
  · exact .of_boundary rfl
  · exact ⟨rfl, fun _ _ => rfl, fun h => absurd rfl h, fun _ h => absurd rfl h⟩

theorem answers_porstNRelease : Answers .porstNRelease s (execPorstNRelease s) := by
  refine ⟨_, rfl, ?_⟩
  split
  · obtain ⟨hpending, hmrst, -, hlink⟩ := Boundary.mk.inj (keepsBoundary_takeHeldLocks { s with porst := false })
    exact ⟨hpending, fun _ _ => hmrst, fun _ h => absurd rfl h, fun _ _ _ => hlink⟩
  · exact .of_boundary rfl

/-! ### The commands of the lanes -/

theorem answers_laneLockGained (i : PortId) : Answers c s (execLaneLockGained i s) := by
  refine answers_next ?_
  have hlock := keepsBoundary_setPort i { s.port i with locked := true } s
  split
  · exact hlock
  · split
    · exact (keepsBoundary_enterSync i _).trans hlock
    · exact hlock

theorem answers_laneLockLost (i : PortId) : Answers c s (execLaneLockLost i s) := by
  refine answers_next ?_
  have hlock := keepsBoundary_setPort i { s.port i with locked := false } s
  split
  · exact hlock
  · split
    · exact hlock
    · exact (keepsBoundary_portReset i .down _).trans hlock

theorem answers_resolve (i : PortId) (index : BitVec 16) : Answers c s (execResolve i index s) := by
  refine answers_unlessReset fun s => ?_
  dsimp only
  split
  · rfl
  · split
    · exact keepsBoundary_protocolError i s
    · exact keepsBoundary_setPort i _ s

theorem answers_vectorAck (i : PortId) (sequence : Byte) : Answers c s (execVectorAck i sequence s) := by
  refine answers_unlessReset fun s => ?_
  dsimp only
  split
  · rfl
  · split
    · exact keepsBoundary_protocolError i s
    · split
      · exact keepsBoundary_protocolError i s
      · exact keepsBoundary_ackTaken i _ s

theorem answers_retractDone (i : PortId) (group : BitVec 16) : Answers c s (execRetractDone i group s) := by
  refine answers_unlessReset fun s => ?_
  dsimp only
  split
  · split
    · exact keepsBoundary_protocolError i s
    · split
      · exact keepsBoundary_takeRetractDone i _ s
      · exact keepsBoundary_protocolError i s
  · exact keepsBoundary_protocolError i s
  · rfl
  · rfl

/-- A message that is an error under some condition. -/
theorem answers_laneError {p : Prop} [Decidable p] {i : PortId} :
    Answers c s (unlessReset s fun s => if p then protocolError i s else s) := by
  refine answers_unlessReset fun s => ?_
  split
  · exact keepsBoundary_protocolError i s
  · rfl

theorem answers_ackTimerExpiry (i : PortId) : Answers c s (execAckTimerExpiry i s) := by
  refine answers_unlessReset fun s => ?_
  split
  · rfl
  · exact keepsBoundary_protocolError i s

theorem answers_answerLeaves (i : PortId) : Answers c s (execAnswerLeaves i s) := by
  refine answers_unlessReset fun s => ?_
  split
  · exact keepsBoundary_setPort i _ s
  · rfl

theorem answers_messageLeaves (i : PortId) : Answers c s (execMessageLeaves i s) := by
  refine answers_unlessReset fun s => ?_
  split
  · rfl
  · rfl
  · exact keepsBoundary_setPort i _ s

end Commands

/-! ### Every command -/

/-- Every command is answered, and changes the boundary only where it may. -/
theorem exec_answers (c : Instr) (s : State) : Answers c s (exec c s) := by
  cases c with
  | mrstNAssert => exact answers_mrstNAssert s
  | mrstNRelease => exact answers_mrstNRelease s
  | porstNAssert => exact answers_porstNAssert s
  | porstNRelease => exact answers_porstNRelease s
  | readFrame clocked => exact answers_readFrame s clocked
  | filteredLineLevelChange u level => exact answers_unlessReset (keepsBoundary_stepUplink u _)
  | scanFrameStart => exact answers_scanFrameStart s
  | scanFrameJudged bits => exact answers_scanFrameJudged s bits
  | qualifyTimerExpiry u => exact answers_unlessReset (keepsBoundary_stepUplink u _)
  | restoreTimerExpiry u => exact answers_unlessReset (keepsBoundary_stepUplink u _)
  | holdTimerExpiry u => exact answers_unlessReset (keepsBoundary_stepUplink u _)
  | windowTimerExpiry u => exact answers_unlessReset (keepsBoundary_stepUplink u _)
  | configureUplink rest => exact answers_unlessReset (keepsBoundary_takeRequest fun f => (keepsBoundary_stepUplink f.1 _).thenReply)
  | setAdminClear rest => exact answers_unlessReset (keepsBoundary_takeOwnRequest fun f => (keepsBoundary_stepUplinks f.2 _).thenReply)
  | setAdminSet rest => exact answers_unlessReset (keepsBoundary_takeOwnRequest fun f => (keepsBoundary_stepUplinks f.2 _).thenReply)
  | configureScanEnable rest => exact answers_unlessReset (keepsBoundary_takeOwnRequest fun f s => keepsBoundary_enableScan f.2 s)
  | configureScanDisable rest => exact answers_unlessReset (keepsBoundary_takeOwnRequest fun f s => keepsBoundary_disableScan f.2 s)
  | readUplink rest => exact answers_unlessReset (keepsBoundary_takeRequest fun _ => keepsBoundary_formReply)
  | installGroup stage => exact answers_installGroup s stage
  | modifyGroup stage => exact answers_modifyGroup s stage
  | retireGroup stage => exact answers_retireGroup s stage
  | readGroup stage => exact answers_readGroup s stage
  | rangeSurvey rest => exact answers_rangeSurvey s rest
  | rangeSurveyAccess => exact answers_rangeSurveyAccess s
  | rebalanceRange rest =>
    exact answers_unlessReset (keepsBoundary_takeRequest fun _ => keepsBoundary_whenReady (keepsBoundary_rebalance _ _))
  | uplinkJobVisit => exact answers_uplinkJobVisit s
  | closingAccess => exact answers_closingAccess s
  | sweepVisit => exact answers_sweepVisit s
  | barrier rest =>
    exact answers_unlessReset (keepsBoundary_takeRequest fun f => keepsBoundary_whenReady (keepsBoundary_takeBarrier f))
  | barrierTimerExpiry => exact answers_barrierTimerExpiry s
  | identify rest => exact answers_unlessReset (keepsBoundary_takeRequest fun _ => keepsBoundary_formReply)
  | readStatus rest => exact answers_unlessReset (keepsBoundary_takeRequest fun _ => keepsBoundary_formReply)
  | configurePorts rest => exact answers_unlessReset (keepsBoundary_takeRequest fun _ _ => rfl)
  | readEvents rest => exact answers_unlessReset (keepsBoundary_takeRequest fun _ _ => rfl)
  | setEventEnablesSet rest => exact answers_unlessReset (keepsBoundary_takeOwnRequest fun _ _ => rfl)
  | setEventEnablesClear rest => exact answers_unlessReset (keepsBoundary_takeOwnRequest fun _ _ => rfl)
  | readCounters rest => exact answers_unlessReset (keepsBoundary_takeOwnRequest fun _ => keepsBoundary_formReply)
  | readCountersClear rest => exact answers_unlessReset (keepsBoundary_takeOwnRequest fun _ => keepsBoundary_clearCounters.thenReply)
  | fullResetRequest rest => exact answers_unlessReset (keepsBoundary_takeRequest fun _ _ => rfl)
  | unknownRequestKind kind rest => exact answers_unknownRequestKind s kind rest
  | requestDropped frame => exact answers_requestDropped s frame
  | initSweepEnd => exact answers_initSweepEnd s
  | laneLockGained i => exact answers_laneLockGained s i
  | laneLockLost i => exact answers_laneLockLost s i
  | resolve i index => exact answers_resolve s i index
  | resolveAccess i => exact answers_unlessReset (keepsBoundary_access (keepsBoundary_serveResolve i))
  | vectorAck i sequence => exact answers_vectorAck s i sequence
  | retractDone i group => exact answers_retractDone s i group
  | unknownKind i bytes => exact answers_laneError s
  | ackTimerExpiry i => exact answers_ackTimerExpiry s i
  | answerLeaves i => exact answers_answerLeaves s i
  | messageLeaves i => exact answers_messageLeaves s i
  | wrongLengthMessage i bytes => exact answers_laneError s

/-- Settles O2: no block's operation writes the queue, the pins or the link, and the commands are made of these. -/
theorem everyCommandIsAnswered : Obligations.EveryCommandIsAnswered := by
  intro c s
  obtain ⟨t, h, hpending, hmrst, hporst, hlink⟩ := exec_answers c s
  exact ⟨t, h, hpending, hmrst, hporst, hlink⟩

end Sys2Proof.Proofs
end
